-- ==== Sys2Proof/Word.lean ====
section
/-!
DEFINITION. Sys2Proof/Word.lean: the widths of spec/00_scope.md R6 (`ADDR_BITS` 16, `OFFSET_BITS` 10, `DATA_BITS` 8),
the 16-bit sample of 15_interfaces.md R43 and the source index of R32.
-/
namespace Sys2Proof

/-- A data byte: `DATA_BITS` = 8 (R6). -/
abbrev Byte := BitVec 8

/-- The address a bus operation carries: `ADDR_BITS` = 16 (R6, R31). -/
abbrev Address := BitVec 16

/-- The low ten bits of an address: `OFFSET_BITS` = 10 (R6, R51). -/
abbrev Offset := BitVec 10

/-- The 16-bit pattern of a "16-bit signed" sample (R43, R53). -/
abbrev Sample := BitVec 16

/-- The index of an interrupt source, one bit position of `S.active_irqs` (R32, R79). -/
abbrev SourceIndex := BitVec 3

end Sys2Proof
end

