-- ==== Sys2Proof/Machine/Operands.lean ====
section
/-!
DEFINITION. Sys2Proof/Machine/Operands.lean: the fields of the transaction words (spec/30_encoding.md R71, R79), of the written
value (R73) and of the returned byte (R74), the identification index (R75) and the fixed bytes of 00_scope.md R6.
-/
namespace Sys2Proof.Machine

/-! ### Fields of a BUS word (R71, R72) -/

/-- `W = T[24]`: a write. -/
def busIsWrite (t : BitVec 25) : Bool := t.getLsbD 24

/-- `A = T[23:8]`. -/
def busAddress (t : BitVec 25) : Address := t.extractLsb' 8 16

/-- `V = T[7:0]`. -/
def busValue (t : BitVec 25) : Byte := t.extractLsb' 0 8

/-- `off = A & 0x3FF`, the low ten bits of the address (R51, R72). -/
def offsetOf (a : Address) : Offset := a.extractLsb' 0 10

/-- The BUS word of `W`, `A` and `V` (R71). -/
def busWord (w : Bool) (a : Address) (v : Byte) : BitVec 25 := BitVec.ofBool w ++ a ++ v

/-- The lowest image of an offset: address bits 15 to 10 zero (R51). -/
def addressOf (off : Offset) : Address := 0#6 ++ off

/-! ### Fields of a SRC word (R79) -/

/-- `SET = Q[3]`. -/
def srcIsSet (q : BitVec 4) : Bool := q.getLsbD 3

/-- `b = Q[2:0]`. -/
def srcIndex (q : BitVec 4) : SourceIndex := q.extractLsb' 0 3

/-- The SRC word of `SET` and `b`. -/
def srcWord (set : Bool) (b : SourceIndex) : BitVec 4 := BitVec.ofBool set ++ b

/-! ### Bits of the written value (R73) -/

/-- Offset 0x02, `V[7]`: the new level of ACK. -/
def valueAck (v : Byte) : Bool := v.getLsbD 7

/-- Offset 0x04, `V[1]`: the new level of RST. -/
def valueReset (v : Byte) : Bool := v.getLsbD 1

/-- Offset 0x07, `V[7]`: unlock BRAM. -/
def valueUnlock (v : Byte) : Bool := v.getLsbD 7

/-! ### The returned byte (R74) -/

/-- Offset 0x02: `S.enabled_irqs | (ACK ? 0x80 : 0x00)` (R105). -/
def enablesByte (enabled : Byte) (ack : Bool) : Byte := enabled ||| (if ack then 0x80#8 else 0x00#8)

/-- Offset 0x03: `S.active_irqs | (S.read_right_channel ? 0x00 : 0x02)`, with the flip-flop after the toggle (R107). -/
def statusByte (active : Byte) (right : Bool) : Byte := active ||| (if right then 0x00#8 else 0x02#8)

/-- Offset 0x04: `RST ? 0x02 : 0x00` (R109). -/
def resetByte (rst : Bool) : Byte := if rst then 0x02#8 else 0x00#8

/-- Offset 0x07: `S.bram_locked ? 0x00 : 0x80` (R115). -/
def lockByte (locked : Bool) : Byte := if locked then 0x00#8 else 0x80#8

/-- `s[7:0]` of a sample's pattern (R53, R111). -/
def sampleLow (s : Sample) : Byte := s.extractLsb' 0 8

/-- `s[15:8]` of a sample's pattern (R53, R113). -/
def sampleHigh (s : Sample) : Byte := s.extractLsb' 8 8

/-- `OPEN_BUS` (00_scope.md R6). -/
def openBus : Byte := 0xFF#8

/-- `ID_BYTES` by index (00_scope.md R6, R75). -/
def idByte (i : BitVec 2) : Byte :=
  if i = 0#2 then 0x00#8 else if i = 1#2 then 0xAA#8 else if i = 2#2 then 0x55#8 else 0x03#8

end Sys2Proof.Machine
end

