-- ==== Sys2Proof/Syntax.lean ====
section
/-!
DEFINITION. Sys2Proof/Syntax.lean: the operations of the block (spec/00_scope.md R2), one constructor of `Instr` per row of
spec/opcode_table.json, in the table's order; the words the three ports carry (30_encoding.md R70); and the tuple of a
snapshot (15_interfaces.md R33).
-/
namespace Sys2Proof

/-- The tuple `(active_irqs, enabled_irqs, bram_locked, read_right_channel)` that SNAPSHOT returns and RESTORE takes
(15_interfaces.md R33, 45_system_ops.md R161; the order is decision D19's). -/
structure Snapshot where
  activeIrqs : Byte
  enabledIrqs : Byte
  bramLocked : Bool
  readRightChannel : Bool
  deriving DecidableEq, Repr, Inhabited

/-- What one port presents in one transaction (30_encoding.md R70). `bus`, `src` and `host` are the words of R71, R79 and
R80; a RESTORE carries its tuple beside the word (R80), a field the other HOST words do not look at. `memRead` and `memWrite`
are the format's primitives of any width `n`, which exist at this interface for `n = 1` only (00_scope.md section 6, R54); a one
byte write takes its value modulo 256 (log 29). -/
inductive Transaction where
  | bus (word : BitVec 25)
  | src (word : BitVec 4)
  | host (word : BitVec 2) (payload : Snapshot)
  | memRead (address : Address) (n : Nat)
  | memWrite (address : Address) (n : Nat) (value : Nat)
  deriving DecidableEq, Repr

/-- The operations (00_scope.md R2). A write keeps the whole value byte, used or not (30_encoding.md R73, R78). A row that
covers a range of unknown offsets keeps the offset, which the log reports (R145, R146). Address bits 15 to 10 and the value
field of a read are ignored on decode (R71, R78) and are no operand. -/
inductive Instr where
  /-- `W.SELPULSE`, R100: write of 0x000. -/
  | wSelpulse (v : Byte)
  /-- `W.CDC_DATA`, R102: write of 0x001. -/
  | wCdcData (v : Byte)
  /-- `W.IRQ_EN_ACK`, R104: write of 0x002. -/
  | wIrqEnAck (v : Byte)
  /-- `W.IRQ_STAT`, R106: write of 0x003. -/
  | wIrqStat (v : Byte)
  /-- `W.CDC_RESET`, R108: write of 0x004. -/
  | wCdcReset (v : Byte)
  /-- `W.SAMPLE_LO`, R110: write of 0x005. -/
  | wSampleLo (v : Byte)
  /-- `W.SAMPLE_HI`, R112: write of 0x006. -/
  | wSampleHi (v : Byte)
  /-- `W.BRAM_LOCK`, R114: write of 0x007. -/
  | wBramLock (v : Byte)
  /-- `W.ADPCM_08`, R120: write of 0x008. -/
  | wAdpcm08 (v : Byte)
  /-- `W.ADPCM_09`, R122: write of 0x009. -/
  | wAdpcm09 (v : Byte)
  /-- `W.ADPCM_0A`, R124: write of 0x00A. -/
  | wAdpcm0A (v : Byte)
  /-- `W.ADPCM_0B`, R126: write of 0x00B. -/
  | wAdpcm0B (v : Byte)
  /-- `W.ADPCM_0C`, R128: write of 0x00C. -/
  | wAdpcm0C (v : Byte)
  /-- `W.ADPCM_0D`, R130: write of 0x00D. -/
  | wAdpcm0D (v : Byte)
  /-- `W.ADPCM_0E`, R132: write of 0x00E. -/
  | wAdpcm0E (v : Byte)
  /-- `W.FADER`, R134: write of 0x00F. -/
  | wFader (v : Byte)
  /-- `W.UNKNOWN_C0`, R144: write of 0x0C0. -/
  | wUnknownC0 (v : Byte)
  /-- `W.UNKNOWN_C1`, R144: write of 0x0C1. -/
  | wUnknownC1 (v : Byte)
  /-- `W.UNKNOWN_C2`, R144: write of 0x0C2. -/
  | wUnknownC2 (v : Byte)
  /-- `W.UNKNOWN_C3`, R144: write of 0x0C3. -/
  | wUnknownC3 (v : Byte)
  /-- `W.UNKNOWN_010_01F`, R146: write of 0x010-0x01F. -/
  | wUnknown010_01F (off : Offset) (v : Byte)
  /-- `W.UNKNOWN_020_03F`, R146: write of 0x020-0x03F. -/
  | wUnknown020_03F (off : Offset) (v : Byte)
  /-- `W.UNKNOWN_040_07F`, R146: write of 0x040-0x07F. -/
  | wUnknown040_07F (off : Offset) (v : Byte)
  /-- `W.UNKNOWN_080_0BF`, R146: write of 0x080-0x0BF. -/
  | wUnknown080_0BF (off : Offset) (v : Byte)
  /-- `W.UNKNOWN_0C4_0C7`, R146: write of 0x0C4-0x0C7. -/
  | wUnknown0C4_0C7 (off : Offset) (v : Byte)
  /-- `W.UNKNOWN_0C8_0CF`, R146: write of 0x0C8-0x0CF. -/
  | wUnknown0C8_0CF (off : Offset) (v : Byte)
  /-- `W.UNKNOWN_0D0_0DF`, R146: write of 0x0D0-0x0DF. -/
  | wUnknown0D0_0DF (off : Offset) (v : Byte)
  /-- `W.UNKNOWN_0E0_0FF`, R146: write of 0x0E0-0x0FF. -/
  | wUnknown0E0_0FF (off : Offset) (v : Byte)
  /-- `W.UNKNOWN_100_1FF`, R146: write of 0x100-0x1FF. -/
  | wUnknown100_1FF (off : Offset) (v : Byte)
  /-- `W.UNKNOWN_200_3FF`, R146: write of 0x200-0x3FF. -/
  | wUnknown200_3FF (off : Offset) (v : Byte)
  /-- `R.CDC_STAT`, R101: read of 0x000. -/
  | rCdcStat
  /-- `R.CDC_DATA`, R103: read of 0x001. -/
  | rCdcData
  /-- `R.IRQ_EN_ACK`, R105: read of 0x002. -/
  | rIrqEnAck
  /-- `R.IRQ_STAT`, R107: read of 0x003. -/
  | rIrqStat
  /-- `R.CDC_RESET`, R109: read of 0x004. -/
  | rCdcReset
  /-- `R.SAMPLE_LO`, R111: read of 0x005. -/
  | rSampleLo
  /-- `R.SAMPLE_HI`, R113: read of 0x006. -/
  | rSampleHi
  /-- `R.BRAM_LOCK`, R115: read of 0x007. -/
  | rBramLock
  /-- `R.CDC_DATA_AUTO`, R121: read of 0x008. -/
  | rCdcDataAuto
  /-- `R.ADPCM_09`, R123: read of 0x009. -/
  | rAdpcm09
  /-- `R.ADPCM_0A`, R125: read of 0x00A. -/
  | rAdpcm0A
  /-- `R.ADPCM_0B`, R127: read of 0x00B. -/
  | rAdpcm0B
  /-- `R.ADPCM_0C`, R129: read of 0x00C. -/
  | rAdpcm0C
  /-- `R.ADPCM_0D`, R131: read of 0x00D. -/
  | rAdpcm0D
  /-- `R.ADPCM_0E`, R133: read of 0x00E. -/
  | rAdpcm0E
  /-- `R.UNKNOWN_0F`, R135: read of 0x00F. -/
  | rUnknown0F
  /-- `R.ID0`, R140: read of 0x0C0. -/
  | rId0
  /-- `R.ID1`, R141: read of 0x0C1. -/
  | rId1
  /-- `R.ID2`, R142: read of 0x0C2. -/
  | rId2
  /-- `R.ID3`, R143: read of 0x0C3. -/
  | rId3
  /-- `R.UNKNOWN_010_01F`, R145: read of 0x010-0x01F. -/
  | rUnknown010_01F (off : Offset)
  /-- `R.UNKNOWN_020_03F`, R145: read of 0x020-0x03F. -/
  | rUnknown020_03F (off : Offset)
  /-- `R.UNKNOWN_040_07F`, R145: read of 0x040-0x07F. -/
  | rUnknown040_07F (off : Offset)
  /-- `R.UNKNOWN_080_0BF`, R145: read of 0x080-0x0BF. -/
  | rUnknown080_0BF (off : Offset)
  /-- `R.UNKNOWN_0C4_0C7`, R145: read of 0x0C4-0x0C7. -/
  | rUnknown0C4_0C7 (off : Offset)
  /-- `R.UNKNOWN_0C8_0CF`, R145: read of 0x0C8-0x0CF. -/
  | rUnknown0C8_0CF (off : Offset)
  /-- `R.UNKNOWN_0D0_0DF`, R145: read of 0x0D0-0x0DF. -/
  | rUnknown0D0_0DF (off : Offset)
  /-- `R.UNKNOWN_0E0_0FF`, R145: read of 0x0E0-0x0FF. -/
  | rUnknown0E0_0FF (off : Offset)
  /-- `R.UNKNOWN_100_1FF`, R145: read of 0x100-0x1FF. -/
  | rUnknown100_1FF (off : Offset)
  /-- `R.UNKNOWN_200_3FF`, R145: read of 0x200-0x3FF. -/
  | rUnknown200_3FF (off : Offset)
  /-- `IRQSET`, R151. -/
  | irqset (b : SourceIndex)
  /-- `IRQCLR`, R152. -/
  | irqclr (b : SourceIndex)
  /-- `RESET`, R160. -/
  | reset
  /-- `SNAPSHOT`, R161. -/
  | snapshot
  /-- `RESTORE`, R162. -/
  | restore (t : Snapshot)
  deriving DecidableEq, Repr

end Sys2Proof
end

