-- ==== Sys2Proof/WellFormed.lean ====
section
/-!
DEFINITION. Sys2Proof/WellFormed.lean: which terms of `Instr` stand for an operation. The operand types already bound every
field but one: the offset of a row that covers a range must lie in that range (spec/30_encoding.md R76).
-/
namespace Sys2Proof

/-- The offset lies in the row's range, both ends included (30_encoding.md R76). -/
def Offset.within (off lo hi : Offset) : Bool := decide (lo ≤ off) && decide (off ≤ hi)

/-- An operation the decoder can produce: each ranged row's offset lies in its range (30_encoding.md R76). Every byte value
is legal on every write (R78), every source index is a word of the SRC format (R79), and a RESTORE may carry any tuple: that
R162 refuses some is part of its meaning. -/
def Instr.wellFormed : Instr → Bool
  | .wSelpulse _ => true
  | .wCdcData _ => true
  | .wIrqEnAck _ => true
  | .wIrqStat _ => true
  | .wCdcReset _ => true
  | .wSampleLo _ => true
  | .wSampleHi _ => true
  | .wBramLock _ => true
  | .wAdpcm08 _ => true
  | .wAdpcm09 _ => true
  | .wAdpcm0A _ => true
  | .wAdpcm0B _ => true
  | .wAdpcm0C _ => true
  | .wAdpcm0D _ => true
  | .wAdpcm0E _ => true
  | .wFader _ => true
  | .wUnknownC0 _ => true
  | .wUnknownC1 _ => true
  | .wUnknownC2 _ => true
  | .wUnknownC3 _ => true
  | .wUnknown010_01F off _ => Offset.within off 0x010#10 0x01F#10
  | .wUnknown020_03F off _ => Offset.within off 0x020#10 0x03F#10
  | .wUnknown040_07F off _ => Offset.within off 0x040#10 0x07F#10
  | .wUnknown080_0BF off _ => Offset.within off 0x080#10 0x0BF#10
  | .wUnknown0C4_0C7 off _ => Offset.within off 0x0C4#10 0x0C7#10
  | .wUnknown0C8_0CF off _ => Offset.within off 0x0C8#10 0x0CF#10
  | .wUnknown0D0_0DF off _ => Offset.within off 0x0D0#10 0x0DF#10
  | .wUnknown0E0_0FF off _ => Offset.within off 0x0E0#10 0x0FF#10
  | .wUnknown100_1FF off _ => Offset.within off 0x100#10 0x1FF#10
  | .wUnknown200_3FF off _ => Offset.within off 0x200#10 0x3FF#10
  | .rCdcStat => true
  | .rCdcData => true
  | .rIrqEnAck => true
  | .rIrqStat => true
  | .rCdcReset => true
  | .rSampleLo => true
  | .rSampleHi => true
  | .rBramLock => true
  | .rCdcDataAuto => true
  | .rAdpcm09 => true
  | .rAdpcm0A => true
  | .rAdpcm0B => true
  | .rAdpcm0C => true
  | .rAdpcm0D => true
  | .rAdpcm0E => true
  | .rUnknown0F => true
  | .rId0 => true
  | .rId1 => true
  | .rId2 => true
  | .rId3 => true
  | .rUnknown010_01F off => Offset.within off 0x010#10 0x01F#10
  | .rUnknown020_03F off => Offset.within off 0x020#10 0x03F#10
  | .rUnknown040_07F off => Offset.within off 0x040#10 0x07F#10
  | .rUnknown080_0BF off => Offset.within off 0x080#10 0x0BF#10
  | .rUnknown0C4_0C7 off => Offset.within off 0x0C4#10 0x0C7#10
  | .rUnknown0C8_0CF off => Offset.within off 0x0C8#10 0x0CF#10
  | .rUnknown0D0_0DF off => Offset.within off 0x0D0#10 0x0DF#10
  | .rUnknown0E0_0FF off => Offset.within off 0x0E0#10 0x0FF#10
  | .rUnknown100_1FF off => Offset.within off 0x100#10 0x1FF#10
  | .rUnknown200_3FF off => Offset.within off 0x200#10 0x3FF#10
  | .irqset _ => true
  | .irqclr _ => true
  | .reset => true
  | .snapshot => true
  | .restore _ => true

end Sys2Proof
end

