-- ==== Sys2Proof/Decode.lean ====
section
/-!
DEFINITION. Sys2Proof/Decode.lean: the decoder of the three ports (spec/30_encoding.md R76, R79, R80), total and refusing by
name; the encoder beside it; and the opcode table's match and mask rows, written from spec/opcode_table.json and not from the
decoder.
-/
namespace Sys2Proof

open Sys2Proof.Machine

/-- Why a transaction is no operation. -/
inductive DecodeError where
  /-- The HOST word `11` (30_encoding.md R80). -/
  | hostWordUndefined
  /-- An access of `n` bytes, `n` not 1 (20_memory.md R54). -/
  | accessWidth (n : Nat)
  deriving DecidableEq, Repr

/-- The write rule an offset selects; every offset without a row of its own is unknown (R76 step 2). -/
def decodeWrite (off : Offset) (v : Byte) : Instr :=
  if off = 0x000#10 then .wSelpulse v
  else if off = 0x001#10 then .wCdcData v
  else if off = 0x002#10 then .wIrqEnAck v
  else if off = 0x003#10 then .wIrqStat v
  else if off = 0x004#10 then .wCdcReset v
  else if off = 0x005#10 then .wSampleLo v
  else if off = 0x006#10 then .wSampleHi v
  else if off = 0x007#10 then .wBramLock v
  else if off = 0x008#10 then .wAdpcm08 v
  else if off = 0x009#10 then .wAdpcm09 v
  else if off = 0x00A#10 then .wAdpcm0A v
  else if off = 0x00B#10 then .wAdpcm0B v
  else if off = 0x00C#10 then .wAdpcm0C v
  else if off = 0x00D#10 then .wAdpcm0D v
  else if off = 0x00E#10 then .wAdpcm0E v
  else if off = 0x00F#10 then .wFader v
  else if off = 0x0C0#10 then .wUnknownC0 v
  else if off = 0x0C1#10 then .wUnknownC1 v
  else if off = 0x0C2#10 then .wUnknownC2 v
  else if off = 0x0C3#10 then .wUnknownC3 v
  else if off ≤ 0x01F#10 then .wUnknown010_01F off v
  else if off ≤ 0x03F#10 then .wUnknown020_03F off v
  else if off ≤ 0x07F#10 then .wUnknown040_07F off v
  else if off ≤ 0x0BF#10 then .wUnknown080_0BF off v
  else if off ≤ 0x0C7#10 then .wUnknown0C4_0C7 off v
  else if off ≤ 0x0CF#10 then .wUnknown0C8_0CF off v
  else if off ≤ 0x0DF#10 then .wUnknown0D0_0DF off v
  else if off ≤ 0x0FF#10 then .wUnknown0E0_0FF off v
  else if off ≤ 0x1FF#10 then .wUnknown100_1FF off v
  else .wUnknown200_3FF off v

/-- The read rule an offset selects (R76 step 3). -/
def decodeRead (off : Offset) : Instr :=
  if off = 0x000#10 then .rCdcStat
  else if off = 0x001#10 then .rCdcData
  else if off = 0x002#10 then .rIrqEnAck
  else if off = 0x003#10 then .rIrqStat
  else if off = 0x004#10 then .rCdcReset
  else if off = 0x005#10 then .rSampleLo
  else if off = 0x006#10 then .rSampleHi
  else if off = 0x007#10 then .rBramLock
  else if off = 0x008#10 then .rCdcDataAuto
  else if off = 0x009#10 then .rAdpcm09
  else if off = 0x00A#10 then .rAdpcm0A
  else if off = 0x00B#10 then .rAdpcm0B
  else if off = 0x00C#10 then .rAdpcm0C
  else if off = 0x00D#10 then .rAdpcm0D
  else if off = 0x00E#10 then .rAdpcm0E
  else if off = 0x00F#10 then .rUnknown0F
  else if off = 0x0C0#10 then .rId0
  else if off = 0x0C1#10 then .rId1
  else if off = 0x0C2#10 then .rId2
  else if off = 0x0C3#10 then .rId3
  else if off ≤ 0x01F#10 then .rUnknown010_01F off
  else if off ≤ 0x03F#10 then .rUnknown020_03F off
  else if off ≤ 0x07F#10 then .rUnknown040_07F off
  else if off ≤ 0x0BF#10 then .rUnknown080_0BF off
  else if off ≤ 0x0C7#10 then .rUnknown0C4_0C7 off
  else if off ≤ 0x0CF#10 then .rUnknown0C8_0CF off
  else if off ≤ 0x0DF#10 then .rUnknown0D0_0DF off
  else if off ≤ 0x0FF#10 then .rUnknown0E0_0FF off
  else if off ≤ 0x1FF#10 then .rUnknown100_1FF off
  else .rUnknown200_3FF off

/-- A BUS word: every one decodes (R76, R77). Address bits 15 to 10, and the value field of a read, are ignored (R71, R78). -/
def decodeBus (t : BitVec 25) : Instr :=
  if busIsWrite t then decodeWrite (offsetOf (busAddress t)) (busValue t)
  else decodeRead (offsetOf (busAddress t))

/-- A SRC word: all sixteen decode (R79). -/
def decodeSrc (q : BitVec 4) : Instr :=
  if srcIsSet q then .irqset (srcIndex q) else .irqclr (srcIndex q)

/-- A HOST word with the tuple beside it (R80). -/
def decodeHost (h : BitVec 2) (payload : Snapshot) : Except DecodeError Instr :=
  if h = 0b00#2 then .ok .reset
  else if h = 0b01#2 then .ok .snapshot
  else if h = 0b10#2 then .ok (.restore payload)
  else .error .hostWordUndefined

/-- The operation a transaction asks for. `MemRead(a, 1)` is `BusRead(a)`, `MemWrite(a, 1, v)` is `BusWrite(a, v)`, and no other
width exists (00_scope.md section 6, R54). -/
def decode : Transaction → Except DecodeError Instr
  | .bus t => .ok (decodeBus t)
  | .src q => .ok (decodeSrc q)
  | .host h payload => decodeHost h payload
  | .memRead a n => if n = 1 then .ok (decodeBus (busWord false a 0x00#8)) else .error (.accessWidth n)
  | .memWrite a n v => if n = 1 then .ok (decodeBus (busWord true a (BitVec.ofNat 8 v))) else .error (.accessWidth n)

/-! ### The encoder -/

/-- The canonical BUS word of a write: address bits 15 to 10 zero (R71). -/
def encodeWrite (off : Offset) (v : Byte) : Transaction := .bus (busWord true (addressOf off) v)

/-- The canonical BUS word of a read: the value field zero (R71). -/
def encodeRead (off : Offset) : Transaction := .bus (busWord false (addressOf off) 0x00#8)

/-- The tuple beside a HOST word that carries none. -/
def emptyPayload : Snapshot :=
  { activeIrqs := 0x00#8, enabledIrqs := 0x00#8, bramLocked := false, readRightChannel := false }

/-- The word of a well-formed operation (R71, R79, R80). -/
def encode : Instr → Transaction
  | .wSelpulse v => encodeWrite 0x000#10 v
  | .wCdcData v => encodeWrite 0x001#10 v
  | .wIrqEnAck v => encodeWrite 0x002#10 v
  | .wIrqStat v => encodeWrite 0x003#10 v
  | .wCdcReset v => encodeWrite 0x004#10 v
  | .wSampleLo v => encodeWrite 0x005#10 v
  | .wSampleHi v => encodeWrite 0x006#10 v
  | .wBramLock v => encodeWrite 0x007#10 v
  | .wAdpcm08 v => encodeWrite 0x008#10 v
  | .wAdpcm09 v => encodeWrite 0x009#10 v
  | .wAdpcm0A v => encodeWrite 0x00A#10 v
  | .wAdpcm0B v => encodeWrite 0x00B#10 v
  | .wAdpcm0C v => encodeWrite 0x00C#10 v
  | .wAdpcm0D v => encodeWrite 0x00D#10 v
  | .wAdpcm0E v => encodeWrite 0x00E#10 v
  | .wFader v => encodeWrite 0x00F#10 v
  | .wUnknownC0 v => encodeWrite 0x0C0#10 v
  | .wUnknownC1 v => encodeWrite 0x0C1#10 v
  | .wUnknownC2 v => encodeWrite 0x0C2#10 v
  | .wUnknownC3 v => encodeWrite 0x0C3#10 v
  | .wUnknown010_01F off v => encodeWrite off v
  | .wUnknown020_03F off v => encodeWrite off v
  | .wUnknown040_07F off v => encodeWrite off v
  | .wUnknown080_0BF off v => encodeWrite off v
  | .wUnknown0C4_0C7 off v => encodeWrite off v
  | .wUnknown0C8_0CF off v => encodeWrite off v
  | .wUnknown0D0_0DF off v => encodeWrite off v
  | .wUnknown0E0_0FF off v => encodeWrite off v
  | .wUnknown100_1FF off v => encodeWrite off v
  | .wUnknown200_3FF off v => encodeWrite off v
  | .rCdcStat => encodeRead 0x000#10
  | .rCdcData => encodeRead 0x001#10
  | .rIrqEnAck => encodeRead 0x002#10
  | .rIrqStat => encodeRead 0x003#10
  | .rCdcReset => encodeRead 0x004#10
  | .rSampleLo => encodeRead 0x005#10
  | .rSampleHi => encodeRead 0x006#10
  | .rBramLock => encodeRead 0x007#10
  | .rCdcDataAuto => encodeRead 0x008#10
  | .rAdpcm09 => encodeRead 0x009#10
  | .rAdpcm0A => encodeRead 0x00A#10
  | .rAdpcm0B => encodeRead 0x00B#10
  | .rAdpcm0C => encodeRead 0x00C#10
  | .rAdpcm0D => encodeRead 0x00D#10
  | .rAdpcm0E => encodeRead 0x00E#10
  | .rUnknown0F => encodeRead 0x00F#10
  | .rId0 => encodeRead 0x0C0#10
  | .rId1 => encodeRead 0x0C1#10
  | .rId2 => encodeRead 0x0C2#10
  | .rId3 => encodeRead 0x0C3#10
  | .rUnknown010_01F off => encodeRead off
  | .rUnknown020_03F off => encodeRead off
  | .rUnknown040_07F off => encodeRead off
  | .rUnknown080_0BF off => encodeRead off
  | .rUnknown0C4_0C7 off => encodeRead off
  | .rUnknown0C8_0CF off => encodeRead off
  | .rUnknown0D0_0DF off => encodeRead off
  | .rUnknown0E0_0FF off => encodeRead off
  | .rUnknown100_1FF off => encodeRead off
  | .rUnknown200_3FF off => encodeRead off
  | .irqset b => .src (srcWord true b)
  | .irqclr b => .src (srcWord false b)
  | .reset => .host 0b00#2 emptyPayload
  | .snapshot => .host 0b01#2 emptyPayload
  | .restore t => .host 0b10#2 t

/-! ### The opcode table -/

/-- A row of spec/opcode_table.json's BUS format: its mnemonic, `match` and `mask`. -/
structure BusRow where
  mnemonic : String
  match25 : BitVec 25
  mask25 : BitVec 25
  deriving DecidableEq, Repr

/-- A word belongs to a row when its bits under the mask are the row's match. -/
def BusRow.covers (r : BusRow) (t : BitVec 25) : Bool := t &&& r.mask25 == r.match25

/-- The write rows of the table, in its order. -/
def busWriteRows : List BusRow :=
  [{ mnemonic := "W.SELPULSE", match25 := 0x1000000#25, mask25 := 0x103FF00#25 },
   { mnemonic := "W.CDC_DATA", match25 := 0x1000100#25, mask25 := 0x103FF00#25 },
   { mnemonic := "W.IRQ_EN_ACK", match25 := 0x1000200#25, mask25 := 0x103FF00#25 },
   { mnemonic := "W.IRQ_STAT", match25 := 0x1000300#25, mask25 := 0x103FF00#25 },
   { mnemonic := "W.CDC_RESET", match25 := 0x1000400#25, mask25 := 0x103FF00#25 },
   { mnemonic := "W.SAMPLE_LO", match25 := 0x1000500#25, mask25 := 0x103FF00#25 },
   { mnemonic := "W.SAMPLE_HI", match25 := 0x1000600#25, mask25 := 0x103FF00#25 },
   { mnemonic := "W.BRAM_LOCK", match25 := 0x1000700#25, mask25 := 0x103FF00#25 },
   { mnemonic := "W.ADPCM_08", match25 := 0x1000800#25, mask25 := 0x103FF00#25 },
   { mnemonic := "W.ADPCM_09", match25 := 0x1000900#25, mask25 := 0x103FF00#25 }] ++
  [{ mnemonic := "W.ADPCM_0A", match25 := 0x1000A00#25, mask25 := 0x103FF00#25 },
   { mnemonic := "W.ADPCM_0B", match25 := 0x1000B00#25, mask25 := 0x103FF00#25 },
   { mnemonic := "W.ADPCM_0C", match25 := 0x1000C00#25, mask25 := 0x103FF00#25 },
   { mnemonic := "W.ADPCM_0D", match25 := 0x1000D00#25, mask25 := 0x103FF00#25 },
   { mnemonic := "W.ADPCM_0E", match25 := 0x1000E00#25, mask25 := 0x103FF00#25 },
   { mnemonic := "W.FADER", match25 := 0x1000F00#25, mask25 := 0x103FF00#25 },
   { mnemonic := "W.UNKNOWN_C0", match25 := 0x100C000#25, mask25 := 0x103FF00#25 },
   { mnemonic := "W.UNKNOWN_C1", match25 := 0x100C100#25, mask25 := 0x103FF00#25 },
   { mnemonic := "W.UNKNOWN_C2", match25 := 0x100C200#25, mask25 := 0x103FF00#25 },
   { mnemonic := "W.UNKNOWN_C3", match25 := 0x100C300#25, mask25 := 0x103FF00#25 }] ++
  [{ mnemonic := "W.UNKNOWN_010_01F", match25 := 0x1001000#25, mask25 := 0x103F000#25 },
   { mnemonic := "W.UNKNOWN_020_03F", match25 := 0x1002000#25, mask25 := 0x103E000#25 },
   { mnemonic := "W.UNKNOWN_040_07F", match25 := 0x1004000#25, mask25 := 0x103C000#25 },
   { mnemonic := "W.UNKNOWN_080_0BF", match25 := 0x1008000#25, mask25 := 0x103C000#25 },
   { mnemonic := "W.UNKNOWN_0C4_0C7", match25 := 0x100C400#25, mask25 := 0x103FC00#25 },
   { mnemonic := "W.UNKNOWN_0C8_0CF", match25 := 0x100C800#25, mask25 := 0x103F800#25 },
   { mnemonic := "W.UNKNOWN_0D0_0DF", match25 := 0x100D000#25, mask25 := 0x103F000#25 },
   { mnemonic := "W.UNKNOWN_0E0_0FF", match25 := 0x100E000#25, mask25 := 0x103E000#25 },
   { mnemonic := "W.UNKNOWN_100_1FF", match25 := 0x1010000#25, mask25 := 0x1030000#25 },
   { mnemonic := "W.UNKNOWN_200_3FF", match25 := 0x1020000#25, mask25 := 0x1020000#25 }]

/-- The read rows of the table, in its order. -/
def busReadRows : List BusRow :=
  [{ mnemonic := "R.CDC_STAT", match25 := 0x0000000#25, mask25 := 0x103FF00#25 },
   { mnemonic := "R.CDC_DATA", match25 := 0x0000100#25, mask25 := 0x103FF00#25 },
   { mnemonic := "R.IRQ_EN_ACK", match25 := 0x0000200#25, mask25 := 0x103FF00#25 },
   { mnemonic := "R.IRQ_STAT", match25 := 0x0000300#25, mask25 := 0x103FF00#25 },
   { mnemonic := "R.CDC_RESET", match25 := 0x0000400#25, mask25 := 0x103FF00#25 },
   { mnemonic := "R.SAMPLE_LO", match25 := 0x0000500#25, mask25 := 0x103FF00#25 },
   { mnemonic := "R.SAMPLE_HI", match25 := 0x0000600#25, mask25 := 0x103FF00#25 },
   { mnemonic := "R.BRAM_LOCK", match25 := 0x0000700#25, mask25 := 0x103FF00#25 },
   { mnemonic := "R.CDC_DATA_AUTO", match25 := 0x0000800#25, mask25 := 0x103FF00#25 },
   { mnemonic := "R.ADPCM_09", match25 := 0x0000900#25, mask25 := 0x103FF00#25 }] ++
  [{ mnemonic := "R.ADPCM_0A", match25 := 0x0000A00#25, mask25 := 0x103FF00#25 },
   { mnemonic := "R.ADPCM_0B", match25 := 0x0000B00#25, mask25 := 0x103FF00#25 },
   { mnemonic := "R.ADPCM_0C", match25 := 0x0000C00#25, mask25 := 0x103FF00#25 },
   { mnemonic := "R.ADPCM_0D", match25 := 0x0000D00#25, mask25 := 0x103FF00#25 },
   { mnemonic := "R.ADPCM_0E", match25 := 0x0000E00#25, mask25 := 0x103FF00#25 },
   { mnemonic := "R.UNKNOWN_0F", match25 := 0x0000F00#25, mask25 := 0x103FF00#25 },
   { mnemonic := "R.ID0", match25 := 0x000C000#25, mask25 := 0x103FF00#25 },
   { mnemonic := "R.ID1", match25 := 0x000C100#25, mask25 := 0x103FF00#25 },
   { mnemonic := "R.ID2", match25 := 0x000C200#25, mask25 := 0x103FF00#25 },
   { mnemonic := "R.ID3", match25 := 0x000C300#25, mask25 := 0x103FF00#25 }] ++
  [{ mnemonic := "R.UNKNOWN_010_01F", match25 := 0x0001000#25, mask25 := 0x103F000#25 },
   { mnemonic := "R.UNKNOWN_020_03F", match25 := 0x0002000#25, mask25 := 0x103E000#25 },
   { mnemonic := "R.UNKNOWN_040_07F", match25 := 0x0004000#25, mask25 := 0x103C000#25 },
   { mnemonic := "R.UNKNOWN_080_0BF", match25 := 0x0008000#25, mask25 := 0x103C000#25 },
   { mnemonic := "R.UNKNOWN_0C4_0C7", match25 := 0x000C400#25, mask25 := 0x103FC00#25 },
   { mnemonic := "R.UNKNOWN_0C8_0CF", match25 := 0x000C800#25, mask25 := 0x103F800#25 },
   { mnemonic := "R.UNKNOWN_0D0_0DF", match25 := 0x000D000#25, mask25 := 0x103F000#25 },
   { mnemonic := "R.UNKNOWN_0E0_0FF", match25 := 0x000E000#25, mask25 := 0x103E000#25 },
   { mnemonic := "R.UNKNOWN_100_1FF", match25 := 0x0010000#25, mask25 := 0x1030000#25 },
   { mnemonic := "R.UNKNOWN_200_3FF", match25 := 0x0020000#25, mask25 := 0x1020000#25 }]

/-- The BUS rows of the table. -/
def busRows : List BusRow := busWriteRows ++ busReadRows

/-- An operation's mnemonic, as spec/opcode_table.json has it (30_encoding.md R83). -/
def Instr.mnemonic : Instr → String
  | .wSelpulse _ => "W.SELPULSE"
  | .wCdcData _ => "W.CDC_DATA"
  | .wIrqEnAck _ => "W.IRQ_EN_ACK"
  | .wIrqStat _ => "W.IRQ_STAT"
  | .wCdcReset _ => "W.CDC_RESET"
  | .wSampleLo _ => "W.SAMPLE_LO"
  | .wSampleHi _ => "W.SAMPLE_HI"
  | .wBramLock _ => "W.BRAM_LOCK"
  | .wAdpcm08 _ => "W.ADPCM_08"
  | .wAdpcm09 _ => "W.ADPCM_09"
  | .wAdpcm0A _ => "W.ADPCM_0A"
  | .wAdpcm0B _ => "W.ADPCM_0B"
  | .wAdpcm0C _ => "W.ADPCM_0C"
  | .wAdpcm0D _ => "W.ADPCM_0D"
  | .wAdpcm0E _ => "W.ADPCM_0E"
  | .wFader _ => "W.FADER"
  | .wUnknownC0 _ => "W.UNKNOWN_C0"
  | .wUnknownC1 _ => "W.UNKNOWN_C1"
  | .wUnknownC2 _ => "W.UNKNOWN_C2"
  | .wUnknownC3 _ => "W.UNKNOWN_C3"
  | .wUnknown010_01F _ _ => "W.UNKNOWN_010_01F"
  | .wUnknown020_03F _ _ => "W.UNKNOWN_020_03F"
  | .wUnknown040_07F _ _ => "W.UNKNOWN_040_07F"
  | .wUnknown080_0BF _ _ => "W.UNKNOWN_080_0BF"
  | .wUnknown0C4_0C7 _ _ => "W.UNKNOWN_0C4_0C7"
  | .wUnknown0C8_0CF _ _ => "W.UNKNOWN_0C8_0CF"
  | .wUnknown0D0_0DF _ _ => "W.UNKNOWN_0D0_0DF"
  | .wUnknown0E0_0FF _ _ => "W.UNKNOWN_0E0_0FF"
  | .wUnknown100_1FF _ _ => "W.UNKNOWN_100_1FF"
  | .wUnknown200_3FF _ _ => "W.UNKNOWN_200_3FF"
  | .rCdcStat => "R.CDC_STAT"
  | .rCdcData => "R.CDC_DATA"
  | .rIrqEnAck => "R.IRQ_EN_ACK"
  | .rIrqStat => "R.IRQ_STAT"
  | .rCdcReset => "R.CDC_RESET"
  | .rSampleLo => "R.SAMPLE_LO"
  | .rSampleHi => "R.SAMPLE_HI"
  | .rBramLock => "R.BRAM_LOCK"
  | .rCdcDataAuto => "R.CDC_DATA_AUTO"
  | .rAdpcm09 => "R.ADPCM_09"
  | .rAdpcm0A => "R.ADPCM_0A"
  | .rAdpcm0B => "R.ADPCM_0B"
  | .rAdpcm0C => "R.ADPCM_0C"
  | .rAdpcm0D => "R.ADPCM_0D"
  | .rAdpcm0E => "R.ADPCM_0E"
  | .rUnknown0F => "R.UNKNOWN_0F"
  | .rId0 => "R.ID0"
  | .rId1 => "R.ID1"
  | .rId2 => "R.ID2"
  | .rId3 => "R.ID3"
  | .rUnknown010_01F _ => "R.UNKNOWN_010_01F"
  | .rUnknown020_03F _ => "R.UNKNOWN_020_03F"
  | .rUnknown040_07F _ => "R.UNKNOWN_040_07F"
  | .rUnknown080_0BF _ => "R.UNKNOWN_080_0BF"
  | .rUnknown0C4_0C7 _ => "R.UNKNOWN_0C4_0C7"
  | .rUnknown0C8_0CF _ => "R.UNKNOWN_0C8_0CF"
  | .rUnknown0D0_0DF _ => "R.UNKNOWN_0D0_0DF"
  | .rUnknown0E0_0FF _ => "R.UNKNOWN_0E0_0FF"
  | .rUnknown100_1FF _ => "R.UNKNOWN_100_1FF"
  | .rUnknown200_3FF _ => "R.UNKNOWN_200_3FF"
  | .irqset _ => "IRQSET"
  | .irqclr _ => "IRQCLR"
  | .reset => "RESET"
  | .snapshot => "SNAPSHOT"
  | .restore _ => "RESTORE"

/-! ### Words numbered as the opcode table numbers them -/

/-- The transaction of a table row's word `w` whose row has `nbits` bits (25, 4, 2, or those in whole bytes: 32, 8, 8). A RESTORE's
tuple lies above the table's bits and is all zero. The table numbers the SRC and the HOST words alike and their rows differ by the
port alone; an 8-bit `w` of 0, 1 or 2 is taken as the HOST word, whose row fixes both its bits, any other as the SRC word (log 8).
The bits of a container above the port's word are no wires of the port and are not looked at. -/
def tableTransaction (nbits w : Nat) : Option Transaction :=
  if nbits = 25 ∨ nbits = 32 then some (.bus (BitVec.ofNat 25 w))
  else if nbits = 4 then some (.src (BitVec.ofNat 4 w))
  else if nbits = 2 then some (.host (BitVec.ofNat 2 w) emptyPayload)
  else if nbits = 8 then
    if w < 3 then some (.host (BitVec.ofNat 2 w) emptyPayload) else some (.src (BitVec.ofNat 4 w))
  else none

/-- The operation the decoder reads from a table row's word. -/
def decodeTableWord (nbits w : Nat) : Option Instr :=
  match tableTransaction nbits w with
  | none => none
  | some t =>
    match decode t with
    | .ok i => some i
    | .error _ => none

end Sys2Proof
end

