-- ==== Sys2Proof/Machine/Interfaces.lean ====
section
/-!
DEFINITION. Sys2Proof/Machine/Interfaces.lean: the collaborators of spec/15_interfaces.md as the block sees them: the state
they own (10_state.md R19), the effectful calls the block makes on them (R41) and what a collaborator does in answer.
-/
namespace Sys2Proof.Machine

/-- The six named signal lines; there is no seventh (15_interfaces.md R36). -/
inductive SignalLine where
  | sel | ack | rst | req | io | cd
  deriving DecidableEq, Repr, Inhabited

/-- The Signal Bus Adapter's state as the block's registers show it (10_state.md R19): six lines, the data port, the status
byte (opaque, R35), and `phase`, the controller's internal phase state with whatever clears an auto-acknowledge (R19, R20 (c)).
No rule reads `phase`: it only lets equal lines hide different controllers (log 3). -/
structure Adapter where
  sel : Bool
  ack : Bool
  rst : Bool
  req : Bool
  io : Bool
  cd : Bool
  dataPort : Byte
  statusByte : Byte
  phase : Nat
  deriving DecidableEq, Repr, Inhabited

/-- The CD-audio delegate's current samples (10_state.md R19, 15_interfaces.md R43). -/
structure CdAudio where
  left : Sample
  right : Sample
  deriving DecidableEq, Repr, Inhabited

/-- Everything outside the block that its registers show or change (10_state.md R19). `adpcm` and `fader` stand for whatever is
behind offsets 0x08 to 0x0E and 0x0F: opaque numbers that no rule reads (log 3). -/
structure Collaborators where
  adapter : Adapter
  cdAudio : CdAudio
  adpcm : Nat
  fader : Nat
  deriving DecidableEq, Repr, Inhabited

/-- The effectful calls on a collaborator that may call back (15_interfaces.md R41): those on the Adapter (R35), on the ADPCM
delegate (R42) and on the fader (R44). -/
inductive CollabCall where
  | setSignal (line : SignalLine) (asserted : Bool)
  | update
  | setDataPort (d : Byte)
  | setAckWithAutoClear
  | adpcmRead (off : Offset)
  | adpcmWrite (off : Offset) (v : Byte)
  | faderWrite (v : Byte)
  deriving DecidableEq, Repr, Inhabited

/-- An effectful call, one entry of the call trace (15_interfaces.md R41, R47): a call on a collaborator, a call on the
interrupt sink with its line identifier (R34), or the diagnostic log (R46). -/
inductive Call where
  | collab (c : CollabCall)
  | irqAssert (line : Nat)
  | irqDeassert (line : Nat)
  | logUnknownRead (off : Offset)
  | logUnknownWrite (off : Offset) (v : Byte)
  deriving DecidableEq, Repr, Inhabited

/-- An interrupt-source operation performed by a collaborator before its call returns (15_interfaces.md R41). -/
inductive Callback where
  | set (b : SourceIndex)
  | clear (b : SourceIndex)
  deriving DecidableEq, Repr, Inhabited

/-- What an effectful call does outside the block: the collaborators' new state, the callbacks in order (R41), and the byte
returned (meaningful for `Adpcm.read` alone, R42). -/
structure Response where
  collab : Collaborators
  callbacks : List Callback
  data : Byte
  deriving DecidableEq, Repr, Inhabited

/-- How the collaborators answer an effectful call, from the state they are in. -/
abbrev Environment := Collaborators → CollabCall → Response

/-- The unit-type flag (15_interfaces.md R45). -/
inductive UnitType where
  | base
  | enhanced
  deriving DecidableEq, Repr, Inhabited

/-- The parameters the source leaves OPEN (00_scope.md R6). `sources` has bit `b` set when index `b` is in `SOURCES`; `irqLine`
is the opaque line identifier. No operation changes them. -/
structure Params where
  unitType : UnitType
  irqLine : Nat
  sources : Byte
  warmResetResetsBlock : Bool
  deriving DecidableEq, Repr, Inhabited

end Sys2Proof.Machine
end

