-- ==== Sys2Proof/Config.lean ====
section
/-!
DEFINITION. Sys2Proof/Config.lean: what an implementation fixes and the spec leaves OPEN (spec/00_scope.md R6), and the free
values: constants without a body, so that nothing can be proved about which value they have.
-/
namespace Sys2Proof.Config

open Sys2Proof.Machine

/-- `UNIT_TYPE` (R6, decision D5): OPEN (log 7). -/
opaque unitType : UnitType

/-- `IRQ_LINE` (R6, decision D4): OPEN, an opaque identifier (log 7). -/
opaque irqLine : Nat

/-- `WARM_RESET_RESETS_BLOCK` (R6, R193, decision D17): OPEN (log 7). -/
opaque warmResetResetsBlock : Bool

/-- The collaborators' state at power-on: not given, and no line level, port or sample value may be assumed (70_reset_and_hazards.md
R192, decision D20; log 6). -/
opaque initialCollaborators : Collaborators

/-- What the collaborators do in answer to each effectful call: unconstrained (15_interfaces.md R39 to R41, 93 U8 to U12; log 4).
The one law a model may assume, set-then-check, is applied where the call is made (`Collaborators.settle`). -/
opaque respond : Environment

end Sys2Proof.Config
end

