-- ==== Sys2Proof/Machine/State.lean ====
section
/-!
DEFINITION. Sys2Proof/Machine/State.lean: the machine's state as plain data: the four fields of ControllerState
(spec/10_state.md R10), the collaborators beside it (R19), the parameters (00_scope.md R6), and the model's own fields (what
the last operation returned and called, what is presented next); the reasons a step can stop; the state after power-on.
-/
namespace Sys2Proof.Machine

/-- What an operation returned (00_scope.md R5): nothing (a write), a byte (a read), a tuple (SNAPSHOT). -/
inductive Result where
  | nothing
  | byte (b : Byte)
  | tuple (t : Snapshot)
  deriving DecidableEq, Repr, Inhabited

/-- What the environment does between two operations. `collaborators`: they change their own state freely (15_interfaces.md
R40). `warmReset`: the console's reset (70_reset_and_hazards.md R193). `hostSync`: the host brings the interrupt controller's
record of the line to the level of the state (45_system_ops.md R160, R162). -/
inductive EnvEvent where
  | collaborators (k : Collaborators)
  | warmReset
  | hostSync
  deriving DecidableEq, Repr

/-- What happens next to the block: a transaction on a port, or an environment step (10_state.md R16). -/
inductive Input where
  | op (t : Transaction)
  | event (e : EnvEvent)
  deriving DecidableEq, Repr

/-- The whole machine. The first four fields are ControllerState and nothing else is (10_state.md R10); a snapshot holds only
them. -/
@[ext]
structure State where
  /-- `S.active_irqs` (R11). -/
  activeIrqs : Byte
  /-- `S.enabled_irqs` (R12). -/
  enabledIrqs : Byte
  /-- `S.bram_locked`, also the output the BRAM device consults (R13, R15). -/
  bramLocked : Bool
  /-- `S.read_right_channel` (R14). -/
  readRightChannel : Bool
  /-- The collaborators' state, outside the block (R19). -/
  collab : Collaborators
  /-- The level the interrupt controller has on record for `IRQ_LINE`, outside the block (R20 (d), 44_irq_ops.md R150). -/
  irqSink : Bool
  /-- The OPEN parameters (00_scope.md R6); no operation changes them. -/
  params : Params
  /-- The model's own field: what the last operation returned (00_scope.md R5; log 2). -/
  result : Result
  /-- The model's own field: the call trace of the last operation, oldest call first (15_interfaces.md R47; log 2). -/
  trace : List Call
  /-- The model's own field: what the environment presents next, first entry first (10_state.md R16; log 1). -/
  inbox : List Input
  deriving DecidableEq, Repr

/-- The block raises no exception, fault or error, ever (60_exceptions.md R170): no constructor, so no step can fault. -/
inductive Fault where
  deriving DecidableEq, Repr

/-- What the model refuses. The hardware's environment does none of these (60_exceptions.md R170, decisions D14, D15, D19,
D23), so stopping is safe. -/
inductive Refusal where
  /-- Raised by an arm of `exec` whose operation has no meaning yet. Safe: the model stops. -/
  | notModelled (mnemonic : String)
  /-- Raised by decoding the HOST word `11`, which is not an operation (30_encoding.md R80). Safe. -/
  | hostWordUndefined
  /-- Raised by decoding an access of `n` bytes, `n` not 1 (20_memory.md R54). Safe. -/
  | accessWidth (n : Nat)
  /-- Raised by IRQSET and IRQCLR with an index outside `SOURCES` (15_interfaces.md R32). Safe. -/
  | sourceOutsideSources (b : SourceIndex)
  /-- Raised by RESTORE of a tuple with `enabled_irqs & 0x83 != 0` (45_system_ops.md R162). Safe. -/
  | restoreBreaksInvariant (t : Snapshot)
  deriving DecidableEq, Repr

/-- Power-on (10_state.md R17; 70_reset_and_hazards.md R190, R192, R194): all masks zero, flip-flop false, BRAM locked; the
interrupt controller records the line as deasserted; the collaborators' state and the parameters UNIT_TYPE, IRQ_LINE and
WARM_RESET_RESETS_BLOCK are whatever they are, SOURCES has its default, all eight (R6); nothing is presented yet. -/
def State.reset : State where
  activeIrqs := 0x00#8
  enabledIrqs := 0x00#8
  bramLocked := true
  readRightChannel := false
  collab := Config.initialCollaborators
  irqSink := false
  params :=
    { unitType := Config.unitType
      irqLine := Config.irqLine
      sources := 0xFF#8
      warmResetResetsBlock := Config.warmResetResetsBlock }
  result := .nothing
  trace := []
  inbox := []

/-! ### One named update per field -/

def State.withActive (a : Byte) (s : State) : State := { s with activeIrqs := a }
def State.withEnabled (e : Byte) (s : State) : State := { s with enabledIrqs := e }
def State.withLocked (l : Bool) (s : State) : State := { s with bramLocked := l }
def State.withRight (r : Bool) (s : State) : State := { s with readRightChannel := r }
def State.withCollab (k : Collaborators) (s : State) : State := { s with collab := k }
def State.withSink (b : Bool) (s : State) : State := { s with irqSink := b }
def State.withResult (r : Result) (s : State) : State := { s with result := r }
def State.withTrace (c : List Call) (s : State) : State := { s with trace := c }
def State.withInbox (x : List Input) (s : State) : State := { s with inbox := x }

end Sys2Proof.Machine
end

