-- ==== Sys2Proof/Machine/Flags.lean ====
section
/-!
DEFINITION. Sys2Proof/Machine/Flags.lean: the mask computations of the Interrupt Aggregator (spec/30_encoding.md R84): the
constant masks, one source's mask, the output level, and the decisions read from the collaborators' lines.
-/
namespace Sys2Proof.Machine

/-- `IRQ_WRITABLE_MASK`, bits 2 to 6 (00_scope.md R6, 10_state.md R12). -/
def irqWritableMask : Byte := 0x7C#8

/-- `IRQ_RESET_KEEP_MASK`: the AND mask that clears bits 4 to 6 (00_scope.md R6, 90_conflicts.md C7). -/
def irqResetKeepMask : Byte := 0x8F#8

/-- `1 << b` (15_interfaces.md R32). -/
def sourceMask (b : SourceIndex) : Byte := 1#8 <<< b.toNat

/-- `(enabled & active) != 0x00` (10_state.md R15). -/
def levelOf (enabled active : Byte) : Bool := (enabled &&& active) != 0x00#8

/-- `irq_level(S)`, the derived output (10_state.md R15). -/
def State.irqLevel (s : State) : Bool := levelOf s.enabledIrqs s.activeIrqs

/-- Index `b` is in `SOURCES` (15_interfaces.md R32). -/
def Params.admits (p : Params) (b : SourceIndex) : Bool := p.sources.getLsbD b.toNat

/-- The level of a named line (15_interfaces.md R35 `check_signal`, R36). -/
def Adapter.checkSignal (a : Adapter) : SignalLine → Bool
  | .sel => a.sel
  | .ack => a.ack
  | .rst => a.rst
  | .req => a.req
  | .io => a.io
  | .cd => a.cd

/-- The Adapter with a named line at a level. -/
def Adapter.withLine (a : Adapter) (line : SignalLine) (v : Bool) : Adapter :=
  match line with
  | .sel => { a with sel := v }
  | .ack => { a with ack := v }
  | .rst => { a with rst := v }
  | .req => { a with req := v }
  | .io => { a with io := v }
  | .cd => { a with cd := v }

/-- The data-input phase: REQ and IO asserted, CD deasserted (42_delegate_registers.md R121). -/
def Adapter.dataInputPhase (a : Adapter) : Bool := a.req && a.io && !a.cd

/-- The tuple is one a SNAPSHOT can have produced: `enabled_irqs & 0x83 == 0x00` (45_system_ops.md R162). -/
def admissibleTuple (t : Snapshot) : Bool := (t.enabledIrqs &&& 0x83#8) == 0x00#8

end Sys2Proof.Machine
end

