-- ==== Sys2Proof/Machine/Ops.lean ====
section
/-!
DEFINITION. Sys2Proof/Machine/Ops.lean: the shared operations: the call trace (spec/15_interfaces.md R47), the recomputation of
the interrupt line and the two source operations (44_irq_ops.md R150 to R152), an effectful call with its callbacks (R41), the
call sequences more than one register uses, and the host's effects (45_system_ops.md).

There is no exception entry and no return from one here: the block raises no exception and takes no trap (60_exceptions.md
R170, R180, R181, R188).
-/
namespace Sys2Proof.Machine

/-- What every meaning answers. -/
abbrev Answer := Host.Outcome State Fault Refusal

/-! ### Observables -/

/-- An effectful call is appended to the call trace (R41, R47). -/
def State.emit (c : Call) (s : State) : State := s.withTrace (s.trace ++ [c])

/-- The byte a read returns (00_scope.md R5). -/
def State.reply (b : Byte) (s : State) : State := s.withResult (.byte b)

/-- A new operation starts: nothing returned yet, an empty call trace, and `rest` still to come. -/
def State.begin (rest : List Input) (s : State) : State :=
  ((s.withResult .nothing).withTrace []).withInbox rest

/-! ### The interrupt aggregator -/

/-- `UpdateIrqLine()`: tell the interrupt controller the level, changed or not: exactly one sink call (44_irq_ops.md R150,
decision D24). -/
def State.updateIrqLine (s : State) : State :=
  if s.irqLevel then (s.withSink true).emit (.irqAssert s.params.irqLine)
  else (s.withSink false).emit (.irqDeassert s.params.irqLine)

/-- `IRQSET(b)` with `b` in `SOURCES`: a no-op when the bit is set already (44_irq_ops.md R151). -/
def State.setSource (b : SourceIndex) (s : State) : State :=
  if s.activeIrqs &&& sourceMask b = 0x00#8 then
    (s.withActive (s.activeIrqs ||| sourceMask b)).updateIrqLine
  else s

/-- `IRQCLR(b)` with `b` in `SOURCES`: a no-op when the bit is clear already (44_irq_ops.md R152). -/
def State.clearSource (b : SourceIndex) (s : State) : State :=
  if s.activeIrqs &&& sourceMask b = 0x00#8 then s
  else (s.withActive (s.activeIrqs &&& ~~~ sourceMask b)).updateIrqLine

/-- The index a callback names. -/
def Callback.index : Callback → SourceIndex
  | .set b => b
  | .clear b => b

/-- One callback, with the value of `S` at that instant (15_interfaces.md R41). -/
def State.runCallback (s : State) : Callback → State
  | .set b => s.setSource b
  | .clear b => s.clearSource b

/-- The callbacks a collaborator makes: peripherals name no index outside `SOURCES` (15_interfaces.md R32; log 5). -/
def Params.heard (p : Params) (cbs : List Callback) : List Callback :=
  cbs.filter fun c => p.admits c.index

/-- The callbacks of one call, in order, each atomic (15_interfaces.md R41). -/
def State.runCallbacks (cbs : List Callback) (s : State) : State :=
  (s.params.heard cbs).foldl State.runCallback s

/-! ### Effectful calls on the collaborators -/

/-- The set-then-check law, the only one assumed of the Adapter: right after `set_signal(l, v)` line `l` is at `v`, right after
`set_data_port(d)` the port holds `d` (15_interfaces.md R39). -/
def Collaborators.settle (k : Collaborators) : CollabCall → Collaborators
  | .setSignal line v => { k with adapter := k.adapter.withLine line v }
  | .setDataPort d => { k with adapter := { k.adapter with dataPort := d } }
  | .update => k
  | .setAckWithAutoClear => k
  | .adpcmRead _ => k
  | .adpcmWrite _ _ => k
  | .faderWrite _ => k

/-- An effectful call on the Adapter, the ADPCM delegate or the fader: traced, answered by the environment, and its callbacks
run before it returns (15_interfaces.md R41). -/
def State.call (env : Environment) (c : CollabCall) (s : State) : State :=
  ((s.emit (.collab c)).withCollab ((env s.collab c).collab.settle c)).runCallbacks (env s.collab c).callbacks

/-- A change on the Adapter followed at once by one `update()` (15_interfaces.md R37). -/
def State.callThenUpdate (env : Environment) (c : CollabCall) (s : State) : State :=
  (s.call env c).call env .update

/-- The select pulse: two edges, one `update()` each (40_scsi_registers.md R100). -/
def State.pulseSelect (env : Environment) (s : State) : State :=
  (s.callThenUpdate env (.setSignal .sel true)).callThenUpdate env (.setSignal .sel false)

/-- The write of 0x02: ACK, update, then the enables, then one recomputation (40_scsi_registers.md R104). -/
def State.writeEnables (env : Environment) (v : Byte) (s : State) : State :=
  ((s.callThenUpdate env (.setSignal .ack (valueAck v))).withEnabled (v &&& irqWritableMask)).updateIrqLine

/-- The enables after a bus reset: bits 4 to 6 cleared, one recomputation (40_scsi_registers.md R108). -/
def State.dropResetEnables (s : State) : State :=
  (s.withEnabled (s.enabledIrqs &&& irqResetKeepMask)).updateIrqLine

/-- The write of 0x04: RST, update, and on an asserted reset the three enables; the written bit decides
(40_scsi_registers.md R108). -/
def State.writeReset (env : Environment) (v : Byte) (s : State) : State :=
  if valueReset v then (s.callThenUpdate env (.setSignal .rst true)).dropResetEnables
  else s.callThenUpdate env (.setSignal .rst false)

/-- The read of 0x08: the data port as it is before the auto-acknowledge, which is made in the data-input phase only
(42_delegate_registers.md R121). -/
def State.readDataAuto (env : Environment) (s : State) : State :=
  (if s.collab.adapter.dataInputPhase then s.callThenUpdate env .setAckWithAutoClear else s).reply
    s.collab.adapter.dataPort

/-- A read forwarded to the ADPCM delegate with the masked offset; its byte is passed unchanged (15_interfaces.md R42). -/
def State.readAdpcm (env : Environment) (off : Offset) (s : State) : State :=
  (s.call env (.adpcmRead off)).reply (env s.collab (.adpcmRead off)).data

/-- The current sample of the channel the flip-flop selects (15_interfaces.md R43, 41_audio_bram_registers.md R111). -/
def State.selectedSample (s : State) : Sample :=
  if s.readRightChannel then s.collab.cdAudio.right else s.collab.cdAudio.left

/-! ### Registers with no collaborator -/

/-- The read of 0x03: lock BRAM, toggle the flip-flop, return the sources with bit 1 from the new flip-flop
(40_scsi_registers.md R107). -/
def State.readStatus (s : State) : State :=
  ((s.withLocked true).withRight (!s.readRightChannel)).reply (statusByte s.activeIrqs (!s.readRightChannel))

/-- The read of an identification byte: open bus on a base unit (43_id_and_unmapped.md R140 to R143). -/
def State.readId (i : BitVec 2) (s : State) : State :=
  s.reply (match s.params.unitType with
    | .base => openBus
    | .enhanced => idByte i)

/-- The read of an unknown offset: logged, open bus (43_id_and_unmapped.md R145). -/
def State.readUnknown (off : Offset) (s : State) : State := (s.emit (.logUnknownRead off)).reply openBus

/-- The write of an unknown offset: logged, nothing else (43_id_and_unmapped.md R144, R146). -/
def State.writeUnknown (off : Offset) (v : Byte) (s : State) : State := s.emit (.logUnknownWrite off v)

/-! ### Host operations and environment events -/

/-- The four fields as a tuple (45_system_ops.md R161). -/
def State.capture (s : State) : Snapshot :=
  { activeIrqs := s.activeIrqs
    enabledIrqs := s.enabledIrqs
    bramLocked := s.bramLocked
    readRightChannel := s.readRightChannel }

/-- The four fields from a tuple; no call on any collaborator (45_system_ops.md R162, decision D18). -/
def State.install (t : Snapshot) (s : State) : State :=
  (((s.withActive t.activeIrqs).withEnabled t.enabledIrqs).withLocked t.bramLocked).withRight t.readRightChannel

/-- The tuple of power-on: all masks zero, BRAM locked, flip-flop false (10_state.md R17, 45_system_ops.md R160). -/
def powerOnTuple : Snapshot :=
  { activeIrqs := 0x00#8, enabledIrqs := 0x00#8, bramLocked := true, readRightChannel := false }

/-- RESET's effect: the four fields and nothing else (45_system_ops.md R160). -/
def State.powerOn (s : State) : State := s.install powerOnTuple

/-- An environment step between two operations (15_interfaces.md R40; 70_reset_and_hazards.md R193; 45_system_ops.md R160,
R162). -/
def State.applyEvent (e : EnvEvent) (s : State) : State :=
  match e with
  | .collaborators k => s.withCollab k
  | .warmReset => if s.params.warmResetResetsBlock then s.powerOn else s
  | .hostSync => s.withSink s.irqLevel

end Sys2Proof.Machine
end

