-- ==== Sys2Proof/Machine/AudioBramRegisters.lean ====
section
/-!
DEFINITION. Sys2Proof/Machine/AudioBramRegisters.lean: offsets 0x05 to 0x07, the sample registers and the BRAM lock (spec/41_audio_bram_registers.md R110 to R115).
-/
namespace Sys2Proof.Machine

/-- `W.SAMPLE_LO` (R110: no effect and no log). -/
def execWSampleLo (_v : Byte) (s : State) : Answer :=
  .next s

/-- `R.SAMPLE_LO` (R111: the flip-flop is not toggled). -/
def execRSampleLo (s : State) : Answer :=
  .next (s.reply (sampleLow s.selectedSample))

/-- `W.SAMPLE_HI` (R112: no effect and no log). -/
def execWSampleHi (_v : Byte) (s : State) : Answer :=
  .next s

/-- `R.SAMPLE_HI` (R113: the flip-flop is not toggled). -/
def execRSampleHi (s : State) : Answer :=
  .next (s.reply (sampleHigh s.selectedSample))

/-- `W.BRAM_LOCK` (R114: a clear bit 7 does not lock). -/
def execWBramLock (v : Byte) (s : State) : Answer :=
  .next (if valueUnlock v then s.withLocked false else s)

/-- `R.BRAM_LOCK` (R115). -/
def execRBramLock (s : State) : Answer :=
  .next (s.reply (lockByte s.bramLocked))

end Sys2Proof.Machine
end

