-- ==== Sys2Proof/Machine/DelegateRegisters.lean ====
section
/-!
DEFINITION. Sys2Proof/Machine/DelegateRegisters.lean: offsets 0x08 to 0x0F, the ADPCM window, the streaming data read and the fader
(spec/42_delegate_registers.md R120 to R135).
-/
namespace Sys2Proof.Machine

/-- `W.ADPCM_08` (R120: forwarded verbatim). -/
def execWAdpcm08 (v : Byte) (s : State) : Answer :=
  .next (s.call Config.respond (.adpcmWrite 0x008#10 v))

/-- `R.CDC_DATA_AUTO` (R121: not forwarded to ADPCM). -/
def execRCdcDataAuto (s : State) : Answer :=
  .next (s.readDataAuto Config.respond)

/-- `W.ADPCM_09` (R122: forwarded verbatim). -/
def execWAdpcm09 (v : Byte) (s : State) : Answer :=
  .next (s.call Config.respond (.adpcmWrite 0x009#10 v))

/-- `R.ADPCM_09` (R123: forwarded). -/
def execRAdpcm09 (s : State) : Answer :=
  .next (s.readAdpcm Config.respond 0x009#10)

/-- `W.ADPCM_0A` (R124: forwarded verbatim). -/
def execWAdpcm0A (v : Byte) (s : State) : Answer :=
  .next (s.call Config.respond (.adpcmWrite 0x00A#10 v))

/-- `R.ADPCM_0A` (R125: forwarded). -/
def execRAdpcm0A (s : State) : Answer :=
  .next (s.readAdpcm Config.respond 0x00A#10)

/-- `W.ADPCM_0B` (R126: forwarded verbatim). -/
def execWAdpcm0B (v : Byte) (s : State) : Answer :=
  .next (s.call Config.respond (.adpcmWrite 0x00B#10 v))

/-- `R.ADPCM_0B` (R127: forwarded). -/
def execRAdpcm0B (s : State) : Answer :=
  .next (s.readAdpcm Config.respond 0x00B#10)

/-- `W.ADPCM_0C` (R128: forwarded verbatim). -/
def execWAdpcm0C (v : Byte) (s : State) : Answer :=
  .next (s.call Config.respond (.adpcmWrite 0x00C#10 v))

/-- `R.ADPCM_0C` (R129: forwarded). -/
def execRAdpcm0C (s : State) : Answer :=
  .next (s.readAdpcm Config.respond 0x00C#10)

/-- `W.ADPCM_0D` (R130: forwarded verbatim). -/
def execWAdpcm0D (v : Byte) (s : State) : Answer :=
  .next (s.call Config.respond (.adpcmWrite 0x00D#10 v))

/-- `R.ADPCM_0D` (R131: forwarded). -/
def execRAdpcm0D (s : State) : Answer :=
  .next (s.readAdpcm Config.respond 0x00D#10)

/-- `W.ADPCM_0E` (R132: forwarded verbatim). -/
def execWAdpcm0E (v : Byte) (s : State) : Answer :=
  .next (s.call Config.respond (.adpcmWrite 0x00E#10 v))

/-- `R.ADPCM_0E` (R133: forwarded). -/
def execRAdpcm0E (s : State) : Answer :=
  .next (s.readAdpcm Config.respond 0x00E#10)

/-- `W.FADER` (R134: the value only, no offset). -/
def execWFader (v : Byte) (s : State) : Answer :=
  .next (s.call Config.respond (.faderWrite v))

/-- `R.UNKNOWN_0F` (R135: the fader is write-only). -/
def execRUnknown0F (s : State) : Answer :=
  .next (s.readUnknown 0x00F#10)

end Sys2Proof.Machine
end

