-- ==== Sys2Proof/Machine/HostOps.lean ====
section
/-!
DEFINITION. Sys2Proof/Machine/HostOps.lean: the operations of the host port (spec/45_system_ops.md R160 to R162).
-/
namespace Sys2Proof.Machine

/-- `RESET` (R160: no call on any collaborator). -/
def execReset (s : State) : Answer :=
  .next s.powerOn

/-- `SNAPSHOT` (R161: observes without changing). -/
def execSnapshot (s : State) : Answer :=
  .next (s.withResult (.tuple s.capture))

/-- `RESTORE` (R162: a tuple that breaks the invariant of R12 is refused). -/
def execRestore (t : Snapshot) (s : State) : Answer :=
  if admissibleTuple t then .next (s.install t) else .refused (.restoreBreaksInvariant t)

end Sys2Proof.Machine
end

