-- ==== Sys2Proof/Machine/IdUnmapped.lean ====
section
/-!
DEFINITION. Sys2Proof/Machine/IdUnmapped.lean: the identification bytes at 0xC0 to 0xC3 and every unknown offset
(spec/43_id_and_unmapped.md R140 to R146).
-/
namespace Sys2Proof.Machine

/-- `R.ID0` (R140). -/
def execRId0 (s : State) : Answer :=
  .next (s.readId 0#2)

/-- `R.ID1` (R141). -/
def execRId1 (s : State) : Answer :=
  .next (s.readId 1#2)

/-- `R.ID2` (R142). -/
def execRId2 (s : State) : Answer :=
  .next (s.readId 2#2)

/-- `R.ID3` (R143). -/
def execRId3 (s : State) : Answer :=
  .next (s.readId 3#2)

/-- `W.UNKNOWN_C0` (R144). -/
def execWUnknownC0 (v : Byte) (s : State) : Answer :=
  .next (s.writeUnknown 0x0C0#10 v)

/-- `W.UNKNOWN_C1` (R144). -/
def execWUnknownC1 (v : Byte) (s : State) : Answer :=
  .next (s.writeUnknown 0x0C1#10 v)

/-- `W.UNKNOWN_C2` (R144). -/
def execWUnknownC2 (v : Byte) (s : State) : Answer :=
  .next (s.writeUnknown 0x0C2#10 v)

/-- `W.UNKNOWN_C3` (R144). -/
def execWUnknownC3 (v : Byte) (s : State) : Answer :=
  .next (s.writeUnknown 0x0C3#10 v)

/-- `W.UNKNOWN_010_01F` (R146, offsets 0x010-0x01F). -/
def execWUnknown010_01F (off : Offset) (v : Byte) (s : State) : Answer :=
  .next (s.writeUnknown off v)

/-- `W.UNKNOWN_020_03F` (R146, offsets 0x020-0x03F). -/
def execWUnknown020_03F (off : Offset) (v : Byte) (s : State) : Answer :=
  .next (s.writeUnknown off v)

/-- `W.UNKNOWN_040_07F` (R146, offsets 0x040-0x07F). -/
def execWUnknown040_07F (off : Offset) (v : Byte) (s : State) : Answer :=
  .next (s.writeUnknown off v)

/-- `W.UNKNOWN_080_0BF` (R146, offsets 0x080-0x0BF). -/
def execWUnknown080_0BF (off : Offset) (v : Byte) (s : State) : Answer :=
  .next (s.writeUnknown off v)

/-- `W.UNKNOWN_0C4_0C7` (R146, offsets 0x0C4-0x0C7). -/
def execWUnknown0C4_0C7 (off : Offset) (v : Byte) (s : State) : Answer :=
  .next (s.writeUnknown off v)

/-- `W.UNKNOWN_0C8_0CF` (R146, offsets 0x0C8-0x0CF). -/
def execWUnknown0C8_0CF (off : Offset) (v : Byte) (s : State) : Answer :=
  .next (s.writeUnknown off v)

/-- `W.UNKNOWN_0D0_0DF` (R146, offsets 0x0D0-0x0DF). -/
def execWUnknown0D0_0DF (off : Offset) (v : Byte) (s : State) : Answer :=
  .next (s.writeUnknown off v)

/-- `W.UNKNOWN_0E0_0FF` (R146, offsets 0x0E0-0x0FF). -/
def execWUnknown0E0_0FF (off : Offset) (v : Byte) (s : State) : Answer :=
  .next (s.writeUnknown off v)

/-- `W.UNKNOWN_100_1FF` (R146, offsets 0x100-0x1FF). -/
def execWUnknown100_1FF (off : Offset) (v : Byte) (s : State) : Answer :=
  .next (s.writeUnknown off v)

/-- `W.UNKNOWN_200_3FF` (R146, offsets 0x200-0x3FF). -/
def execWUnknown200_3FF (off : Offset) (v : Byte) (s : State) : Answer :=
  .next (s.writeUnknown off v)

/-- `R.UNKNOWN_010_01F` (R145, offsets 0x010-0x01F). -/
def execRUnknown010_01F (off : Offset) (s : State) : Answer :=
  .next (s.readUnknown off)

/-- `R.UNKNOWN_020_03F` (R145, offsets 0x020-0x03F). -/
def execRUnknown020_03F (off : Offset) (s : State) : Answer :=
  .next (s.readUnknown off)

/-- `R.UNKNOWN_040_07F` (R145, offsets 0x040-0x07F). -/
def execRUnknown040_07F (off : Offset) (s : State) : Answer :=
  .next (s.readUnknown off)

/-- `R.UNKNOWN_080_0BF` (R145, offsets 0x080-0x0BF). -/
def execRUnknown080_0BF (off : Offset) (s : State) : Answer :=
  .next (s.readUnknown off)

/-- `R.UNKNOWN_0C4_0C7` (R145, offsets 0x0C4-0x0C7). -/
def execRUnknown0C4_0C7 (off : Offset) (s : State) : Answer :=
  .next (s.readUnknown off)

/-- `R.UNKNOWN_0C8_0CF` (R145, offsets 0x0C8-0x0CF). -/
def execRUnknown0C8_0CF (off : Offset) (s : State) : Answer :=
  .next (s.readUnknown off)

/-- `R.UNKNOWN_0D0_0DF` (R145, offsets 0x0D0-0x0DF). -/
def execRUnknown0D0_0DF (off : Offset) (s : State) : Answer :=
  .next (s.readUnknown off)

/-- `R.UNKNOWN_0E0_0FF` (R145, offsets 0x0E0-0x0FF). -/
def execRUnknown0E0_0FF (off : Offset) (s : State) : Answer :=
  .next (s.readUnknown off)

/-- `R.UNKNOWN_100_1FF` (R145, offsets 0x100-0x1FF). -/
def execRUnknown100_1FF (off : Offset) (s : State) : Answer :=
  .next (s.readUnknown off)

/-- `R.UNKNOWN_200_3FF` (R145, offsets 0x200-0x3FF). -/
def execRUnknown200_3FF (off : Offset) (s : State) : Answer :=
  .next (s.readUnknown off)

end Sys2Proof.Machine
end

