-- ==== Sys2Proof/Machine/IrqSources.lean ====
section
/-!
DEFINITION. Sys2Proof/Machine/IrqSources.lean: the operations of the interrupt-source port (spec/44_irq_ops.md R151, R152).
-/
namespace Sys2Proof.Machine

/-- `IRQSET` (R151; an index outside SOURCES is refused, R32). -/
def execIrqset (b : SourceIndex) (s : State) : Answer :=
  if s.params.admits b then .next (s.setSource b) else .refused (.sourceOutsideSources b)

/-- `IRQCLR` (R152; an index outside SOURCES is refused, R32). -/
def execIrqclr (b : SourceIndex) (s : State) : Answer :=
  if s.params.admits b then .next (s.clearSource b) else .refused (.sourceOutsideSources b)

end Sys2Proof.Machine
end

