-- ==== Sys2Proof/Machine/ScsiRegisters.lean ====
section
/-!
DEFINITION. Sys2Proof/Machine/ScsiRegisters.lean: offsets 0x00 to 0x04, the signal bus and interrupt registers (spec/40_scsi_registers.md R100 to R109).
-/
namespace Sys2Proof.Machine

/-- `W.SELPULSE` (R100: the value is ignored). -/
def execWSelpulse (_v : Byte) (s : State) : Answer :=
  .next (s.pulseSelect Config.respond)

/-- `R.CDC_STAT` (R101: passed through unchanged). -/
def execRCdcStat (s : State) : Answer :=
  .next (s.reply s.collab.adapter.statusByte)

/-- `W.CDC_DATA` (R102: whatever the phase). -/
def execWCdcData (v : Byte) (s : State) : Answer :=
  .next (s.callThenUpdate Config.respond (.setDataPort v))

/-- `R.CDC_DATA` (R103: never acknowledges). -/
def execRCdcData (s : State) : Answer :=
  .next (s.reply s.collab.adapter.dataPort)

/-- `W.IRQ_EN_ACK` (R104). -/
def execWIrqEnAck (v : Byte) (s : State) : Answer :=
  .next (s.writeEnables Config.respond v)

/-- `R.IRQ_EN_ACK` (R105: bit 7 is the Adapter's present ACK). -/
def execRIrqEnAck (s : State) : Answer :=
  .next (s.reply (enablesByte s.enabledIrqs (s.collab.adapter.checkSignal .ack)))

/-- `W.IRQ_STAT` (R106: read-only, no effect and no log). -/
def execWIrqStat (_v : Byte) (s : State) : Answer :=
  .next s

/-- `R.IRQ_STAT` (R107). -/
def execRIrqStat (s : State) : Answer :=
  .next s.readStatus

/-- `W.CDC_RESET` (R108). -/
def execWCdcReset (v : Byte) (s : State) : Answer :=
  .next (s.writeReset Config.respond v)

/-- `R.CDC_RESET` (R109: the Adapter's present RST). -/
def execRCdcReset (s : State) : Answer :=
  .next (s.reply (resetByte (s.collab.adapter.checkSignal .rst)))

end Sys2Proof.Machine
end

