-- ==== Sys2Proof/Machine/Dispatch.lean ====
section
/-! DEFINITION. Sys2Proof/Machine/Dispatch.lean: one arm per operation (spec/30_encoding.md R76, R79, R80). -/
namespace Sys2Proof.Machine

def exec (i : Instr) (s : State) : Host.Outcome State Fault Refusal :=
  match i with
  | .wSelpulse v => Sys2Proof.Machine.execWSelpulse v s
  | .wCdcData v => Sys2Proof.Machine.execWCdcData v s
  | .wIrqEnAck v => Sys2Proof.Machine.execWIrqEnAck v s
  | .wIrqStat v => Sys2Proof.Machine.execWIrqStat v s
  | .wCdcReset v => Sys2Proof.Machine.execWCdcReset v s
  | .wSampleLo v => Sys2Proof.Machine.execWSampleLo v s
  | .wSampleHi v => Sys2Proof.Machine.execWSampleHi v s
  | .wBramLock v => Sys2Proof.Machine.execWBramLock v s
  | .wAdpcm08 v => Sys2Proof.Machine.execWAdpcm08 v s
  | .wAdpcm09 v => Sys2Proof.Machine.execWAdpcm09 v s
  | .wAdpcm0A v => Sys2Proof.Machine.execWAdpcm0A v s
  | .wAdpcm0B v => Sys2Proof.Machine.execWAdpcm0B v s
  | .wAdpcm0C v => Sys2Proof.Machine.execWAdpcm0C v s
  | .wAdpcm0D v => Sys2Proof.Machine.execWAdpcm0D v s
  | .wAdpcm0E v => Sys2Proof.Machine.execWAdpcm0E v s
  | .wFader v => Sys2Proof.Machine.execWFader v s
  | .wUnknownC0 v => Sys2Proof.Machine.execWUnknownC0 v s
  | .wUnknownC1 v => Sys2Proof.Machine.execWUnknownC1 v s
  | .wUnknownC2 v => Sys2Proof.Machine.execWUnknownC2 v s
  | .wUnknownC3 v => Sys2Proof.Machine.execWUnknownC3 v s
  | .wUnknown010_01F off v => Sys2Proof.Machine.execWUnknown010_01F off v s
  | .wUnknown020_03F off v => Sys2Proof.Machine.execWUnknown020_03F off v s
  | .wUnknown040_07F off v => Sys2Proof.Machine.execWUnknown040_07F off v s
  | .wUnknown080_0BF off v => Sys2Proof.Machine.execWUnknown080_0BF off v s
  | .wUnknown0C4_0C7 off v => Sys2Proof.Machine.execWUnknown0C4_0C7 off v s
  | .wUnknown0C8_0CF off v => Sys2Proof.Machine.execWUnknown0C8_0CF off v s
  | .wUnknown0D0_0DF off v => Sys2Proof.Machine.execWUnknown0D0_0DF off v s
  | .wUnknown0E0_0FF off v => Sys2Proof.Machine.execWUnknown0E0_0FF off v s
  | .wUnknown100_1FF off v => Sys2Proof.Machine.execWUnknown100_1FF off v s
  | .wUnknown200_3FF off v => Sys2Proof.Machine.execWUnknown200_3FF off v s
  | .rCdcStat => Sys2Proof.Machine.execRCdcStat s
  | .rCdcData => Sys2Proof.Machine.execRCdcData s
  | .rIrqEnAck => Sys2Proof.Machine.execRIrqEnAck s
  | .rIrqStat => Sys2Proof.Machine.execRIrqStat s
  | .rCdcReset => Sys2Proof.Machine.execRCdcReset s
  | .rSampleLo => Sys2Proof.Machine.execRSampleLo s
  | .rSampleHi => Sys2Proof.Machine.execRSampleHi s
  | .rBramLock => Sys2Proof.Machine.execRBramLock s
  | .rCdcDataAuto => Sys2Proof.Machine.execRCdcDataAuto s
  | .rAdpcm09 => Sys2Proof.Machine.execRAdpcm09 s
  | .rAdpcm0A => Sys2Proof.Machine.execRAdpcm0A s
  | .rAdpcm0B => Sys2Proof.Machine.execRAdpcm0B s
  | .rAdpcm0C => Sys2Proof.Machine.execRAdpcm0C s
  | .rAdpcm0D => Sys2Proof.Machine.execRAdpcm0D s
  | .rAdpcm0E => Sys2Proof.Machine.execRAdpcm0E s
  | .rUnknown0F => Sys2Proof.Machine.execRUnknown0F s
  | .rId0 => Sys2Proof.Machine.execRId0 s
  | .rId1 => Sys2Proof.Machine.execRId1 s
  | .rId2 => Sys2Proof.Machine.execRId2 s
  | .rId3 => Sys2Proof.Machine.execRId3 s
  | .rUnknown010_01F off => Sys2Proof.Machine.execRUnknown010_01F off s
  | .rUnknown020_03F off => Sys2Proof.Machine.execRUnknown020_03F off s
  | .rUnknown040_07F off => Sys2Proof.Machine.execRUnknown040_07F off s
  | .rUnknown080_0BF off => Sys2Proof.Machine.execRUnknown080_0BF off s
  | .rUnknown0C4_0C7 off => Sys2Proof.Machine.execRUnknown0C4_0C7 off s
  | .rUnknown0C8_0CF off => Sys2Proof.Machine.execRUnknown0C8_0CF off s
  | .rUnknown0D0_0DF off => Sys2Proof.Machine.execRUnknown0D0_0DF off s
  | .rUnknown0E0_0FF off => Sys2Proof.Machine.execRUnknown0E0_0FF off s
  | .rUnknown100_1FF off => Sys2Proof.Machine.execRUnknown100_1FF off s
  | .rUnknown200_3FF off => Sys2Proof.Machine.execRUnknown200_3FF off s
  | .irqset b => Sys2Proof.Machine.execIrqset b s
  | .irqclr b => Sys2Proof.Machine.execIrqclr b s
  | .reset => Sys2Proof.Machine.execReset s
  | .snapshot => Sys2Proof.Machine.execSnapshot s
  | .restore t => Sys2Proof.Machine.execRestore t s

end Sys2Proof.Machine
end

