-- ==== Sys2Proof/Machine/Step.lean ====
section
/-!
DEFINITION. Sys2Proof/Machine/Step.lean: one step. The block has no fetch (spec/10_state.md R16): the environment picks what
happens next, and `State.inbox` holds its choices in order (log 1).
-/
namespace Sys2Proof.Machine

/-- The model's refusal of a transaction that is no operation (30_encoding.md R80, 20_memory.md R54). -/
def refusalOf : DecodeError → Refusal
  | .hostWordUndefined => .hostWordUndefined
  | .accessWidth n => .accessWidth n

/-- One step: the next transaction is decoded and its operation runs to completion (00_scope.md R2), or an environment step
happens (15_interfaces.md R40). With nothing presented nothing happens: the block never starts an operation (R30). -/
def step (s : State) : Host.Outcome State Fault Refusal :=
  match s.inbox with
  | [] => .next (s.begin [])
  | .event e :: rest => .next ((s.begin rest).applyEvent e)
  | .op t :: rest =>
    match decode t with
    | .ok i => exec i (s.begin rest)
    | .error e => .refused (refusalOf e)

/-- The state in which a port presents the table row's word `w` next, before everything already in the inbox (log 1, log 8). A
width the table does not have presents nothing. -/
def State.withFetchWord (s : State) (nbits w : Nat) : State :=
  match tableTransaction nbits w with
  | none => s
  | some t => s.withInbox (.op t :: s.inbox)

end Sys2Proof.Machine
end

