-- ==== Sys2Proof/Machine/Text.lean ====
section
/-!
DEFINITION. Sys2Proof/Machine/Text.lean: the one-line text form of the operations (spec/30_encoding.md R82) as lists of
characters: writing a transaction as a line, and reading a line. `ENV` lines are notes and no operation (R82).
-/
namespace Sys2Proof.Machine

/-- The sixteen digits of a hexadecimal number without a leading mark (R82). -/
def hexDigits : List Char := ['0', '1', '2', '3', '4', '5', '6', '7', '8', '9', 'A', 'B', 'C', 'D', 'E', 'F']

/-- The `count` low hexadecimal digits of a number, most significant first. -/
def hexText : Nat → Nat → List Char
  | 0, _ => []
  | count + 1, n => hexText count (n / 16) ++ [hexDigits.getD (n % 16) '0']

/-- `0` or `1`. -/
def flagText (b : Bool) : List Char := if b then ['1'] else ['0']

/-- The line of a transaction; none for the HOST word `11` and for a wide access, which are no operation (R80, R54). A one-byte
`MemRead` or `MemWrite` is written as the bus operation it equals (00_scope.md section 6). -/
def textOf : Transaction → Option (List Char)
  | .bus t =>
    if busIsWrite t then
      some (['W', ' '] ++ hexText 4 (busAddress t).toNat ++ [' '] ++ hexText 2 (busValue t).toNat)
    else some (['R', ' '] ++ hexText 4 (busAddress t).toNat)
  | .src q =>
    some ((if srcIsSet q then ['S', 'E', 'T', ' '] else ['C', 'L', 'R', ' ']) ++ hexText 1 (srcIndex q).toNat)
  | .host h t =>
    if h = 0b00#2 then some ['R', 'E', 'S', 'E', 'T']
    else if h = 0b01#2 then some ['S', 'N', 'A', 'P']
    else if h = 0b10#2 then
      some (['R', 'E', 'S', 'T', 'O', 'R', 'E', ' '] ++ hexText 2 t.activeIrqs.toNat ++ [' '] ++
        hexText 2 t.enabledIrqs.toNat ++ [' '] ++ flagText t.bramLocked ++ [' '] ++ flagText t.readRightChannel)
    else none
  | .memRead a n => if n = 1 then some (['R', ' '] ++ hexText 4 a.toNat) else none
  | .memWrite a n v =>
    if n = 1 then some (['W', ' '] ++ hexText 4 a.toNat ++ [' '] ++ hexText 2 (v % 256)) else none

/-- The words of a line up to a `;`, which starts a comment. `word` is the word being read. -/
def textWords (word : List Char) : List Char → List (List Char)
  | [] => if word = [] then [] else [word]
  | c :: cs =>
    if c = ';' then (if word = [] then [] else [word])
    else if c = ' ' then (if word = [] then textWords [] cs else word :: textWords [] cs)
    else textWords (word ++ [c]) cs

/-- The value of a hexadecimal digit. -/
def hexValue (c : Char) : Option Nat := hexDigits.idxOf? c

/-- The number `count` hexadecimal digits stand for; none for another length or another character. -/
def readHex : Nat → Nat → List Char → Option Nat
  | 0, acc, [] => some acc
  | 0, _, _ :: _ => none
  | _ + 1, _, [] => none
  | count + 1, acc, c :: cs =>
    match hexValue c with
    | none => none
    | some d => readHex count (16 * acc + d) cs

/-- `0` or `1`. -/
def readFlag : List Char → Option Bool
  | ['0'] => some false
  | ['1'] => some true
  | _ => none

/-- A source index, `0` to `7`. -/
def readIndex (w : List Char) : Option SourceIndex :=
  match readHex 1 0 w with
  | none => none
  | some n => if n < 8 then some (BitVec.ofNat 3 n) else none

/-- The tuple beside a HOST word that carries none. -/
def noTuple : Snapshot :=
  { activeIrqs := 0x00#8, enabledIrqs := 0x00#8, bramLocked := false, readRightChannel := false }

/-- The transaction a line of words stands for (R82). -/
def readWords : List (List Char) → Option Transaction
  | [['R', 'E', 'S', 'E', 'T']] => some (.host 0b00#2 noTuple)
  | [['S', 'N', 'A', 'P']] => some (.host 0b01#2 noTuple)
  | [['R'], a] => (readHex 4 0 a).map fun n => .bus (busWord false (BitVec.ofNat 16 n) 0x00#8)
  | [['S', 'E', 'T'], b] => (readIndex b).map fun i => .src (srcWord true i)
  | [['C', 'L', 'R'], b] => (readIndex b).map fun i => .src (srcWord false i)
  | [['W'], a, v] =>
    match readHex 4 0 a, readHex 2 0 v with
    | some n, some m => some (.bus (busWord true (BitVec.ofNat 16 n) (BitVec.ofNat 8 m)))
    | _, _ => none
  | [['R', 'E', 'S', 'T', 'O', 'R', 'E'], a, e, l, r] =>
    match readHex 2 0 a, readHex 2 0 e, readFlag l, readFlag r with
    | some a, some e, some l, some r =>
      some (.host 0b10#2
        { activeIrqs := BitVec.ofNat 8 a, enabledIrqs := BitVec.ofNat 8 e, bramLocked := l, readRightChannel := r })
    | _, _, _, _ => none
  | _ => none

/-- The transaction a line stands for: exactly one operation, or none (R82). -/
def readText (line : List Char) : Option Transaction := readWords (textWords [] line)

end Sys2Proof.Machine
end

