-- ==== Sys2Proof/Safety.lean ====
section
/-!
DEFINITION. Sys2Proof/Safety.lean: what counts as a safe run, in the terms the statements use: the invariant of the enables
(spec/10_state.md R12), the line agreement (R15, 44_irq_ops.md R150), the update discipline (15_interfaces.md R37); and the
plain-list account of a sequence of collaborator calls with its callbacks (R41), which says without the machine's own folds
what such a sequence leaves.
-/
namespace Sys2Proof.Machine

/-! ### Invariants -/

/-- Bits 0, 1 and 7 of the enables are zero (10_state.md R12). -/
abbrev State.EnablesInMask (s : State) : Prop := s.enabledIrqs &&& 0x83#8 = 0x00#8

/-- The interrupt controller's record is the level of the state (10_state.md R15, 44_irq_ops.md R150 corner case 4). -/
abbrev State.LineAgrees (s : State) : Prop := s.irqSink = s.irqLevel

/-! ### Reading a call trace -/

/-- A call on the interrupt sink (15_interfaces.md R34). -/
def Call.isSink : Call → Bool
  | .irqAssert _ => true
  | .irqDeassert _ => true
  | .collab _ => false
  | .logUnknownRead _ => false
  | .logUnknownWrite _ _ => false

/-- A signal or data-port change, which an `update()` must follow (15_interfaces.md R37). -/
def Call.isChange : Call → Bool
  | .collab (.setSignal _ _) => true
  | .collab (.setDataPort _) => true
  | .collab .setAckWithAutoClear => true
  | _ => false

/-- `Adapter.update()`. -/
def Call.isUpdate : Call → Bool
  | .collab .update => true
  | _ => false

/-- The collaborator call a trace entry is; none for a sink call and for the log. -/
def Call.collabCall? : Call → Option CollabCall
  | .collab c => some c
  | .irqAssert _ => none
  | .irqDeassert _ => none
  | .logUnknownRead _ => none
  | .logUnknownWrite _ _ => none

/-- The very next entry after each change is an `update()`: nothing at all stands between (15_interfaces.md R37). -/
def updatesAtOnce : List Call → Bool
  | [] => true
  | [c] => !c.isChange
  | c :: d :: cs => (!c.isChange || d.isUpdate) && updatesAtOnce (d :: cs)

/-- Each change is followed by one `update()` with only sink calls of callbacks between, and every `update()` is so preceded.
`owed` says that a change still waits for its update (15_interfaces.md R37). -/
def disciplined (owed : Bool) : List Call → Bool
  | [] => !owed
  | c :: cs =>
    if c.isSink then disciplined owed cs
    else if c.isUpdate then owed && disciplined false cs
    else if c.isChange then !owed && disciplined true cs
    else !owed && disciplined false cs

/-- The level the last sink call of a list reported, `before` where it holds none. -/
def lastLevel (before : Bool) : List Call → Bool
  | [] => before
  | .irqAssert _ :: cs => lastLevel true cs
  | .irqDeassert _ :: cs => lastLevel false cs
  | .collab _ :: cs => lastLevel before cs
  | .logUnknownRead _ :: cs => lastLevel before cs
  | .logUnknownWrite _ _ :: cs => lastLevel before cs

/-- The sink call that reports a level (44_irq_ops.md R150). -/
def sinkCall (line : Nat) (level : Bool) : Call := if level then .irqAssert line else .irqDeassert line

/-! ### What a list of callbacks leaves -/

/-- The pending bits after a callback. -/
def maskAfterOne (active : Byte) : Callback → Byte
  | .set b => active ||| 1#8 <<< b.toNat
  | .clear b => active &&& ~~~ (1#8 <<< b.toNat)

/-- The pending bits after a list of callbacks. -/
def maskAfter (active : Byte) : List Callback → Byte
  | [] => active
  | c :: cs => maskAfter (maskAfterOne active c) cs

/-- The sink calls a list of callbacks causes: one for each that changes a bit, judged against the enables (44_irq_ops.md R150 to
R152). -/
def sinkCalls (line : Nat) (enabled active : Byte) : List Callback → List Call
  | [] => []
  | c :: cs =>
    if maskAfterOne active c = active then sinkCalls line enabled active cs
    else sinkCall line ((enabled &&& maskAfterOne active c) != 0x00#8) ::
      sinkCalls line enabled (maskAfterOne active c) cs

/-! ### What a sequence of collaborator calls leaves -/

/-- What a sequence of effectful calls leaves outside the enables, the lock and the flip-flop: the collaborators, the pending
bits and the calls made. -/
structure Exchange where
  collab : Collaborators
  active : Byte
  calls : List Call

/-- The callbacks heard in answer to a call: those whose index is in `SOURCES` (15_interfaces.md R32, R41). -/
def heardFrom (env : Environment) (p : Params) (k : Collaborators) (c : CollabCall) : List Callback :=
  (env k c).callbacks.filter fun cb => p.sources.getLsbD cb.index.toNat

/-- The callbacks heard during a sequence of calls, in order (15_interfaces.md R41). -/
def callbacksHeard (env : Environment) (p : Params) : List CollabCall → Collaborators → List Callback
  | [], _ => []
  | c :: cs, k => heardFrom env p k c ++ callbacksHeard env p cs ((env k c).collab.settle c)

/-- The calls in order: each is traced, answered, followed by the sink calls of its callbacks. -/
def exchange (env : Environment) (p : Params) (enabled : Byte) : List CollabCall → Exchange → Exchange
  | [], x => x
  | c :: cs, x =>
    exchange env p enabled cs
      { collab := (env x.collab c).collab.settle c
        active := maskAfter x.active (heardFrom env p x.collab c)
        calls := x.calls ++ .collab c :: sinkCalls p.irqLine enabled x.active (heardFrom env p x.collab c) }

/-- The state after a sequence of collaborator calls in which the block itself does nothing else: the enables, the lock, the
flip-flop, the result, the parameters and the inbox are as before. -/
def State.afterCalls (env : Environment) (cs : List CollabCall) (s : State) : State :=
  let x := exchange env s.params s.enabledIrqs cs { collab := s.collab, active := s.activeIrqs, calls := [] }
  { s with
    collab := x.collab
    activeIrqs := x.active
    trace := s.trace ++ x.calls
    irqSink := lastLevel s.irqSink x.calls }

/-! ### Which operations do what -/

/-- How many signal or data-port changes an operation makes (the table of 15_interfaces.md R37). -/
def busChanges (i : Instr) (s : State) : Nat :=
  match i with
  | .wSelpulse _ => 2
  | .wCdcData _ => 1
  | .wIrqEnAck _ => 1
  | .wCdcReset _ => 1
  | .rCdcDataAuto => if s.collab.adapter.dataInputPhase then 1 else 0
  | _ => 0

/-- The effectful calls on the Adapter, the ADPCM delegate and the fader an operation makes itself, in order: the register rules
(40_scsi_registers.md R100, R102, R104, R108; 42_delegate_registers.md R120 to R134). Every other operation makes none. -/
def callsOf (i : Instr) (s : State) : List CollabCall :=
  match i with
  | .wSelpulse _ => [.setSignal .sel true, .update, .setSignal .sel false, .update]
  | .wCdcData v => [.setDataPort v, .update]
  | .wIrqEnAck v => [.setSignal .ack (v.getLsbD 7), .update]
  | .wCdcReset v => [.setSignal .rst (v.getLsbD 1), .update]
  | .rCdcDataAuto => if s.collab.adapter.dataInputPhase then [.setAckWithAutoClear, .update] else []
  | .wAdpcm08 v => [.adpcmWrite 0x008#10 v]
  | .wAdpcm09 v => [.adpcmWrite 0x009#10 v]
  | .wAdpcm0A v => [.adpcmWrite 0x00A#10 v]
  | .wAdpcm0B v => [.adpcmWrite 0x00B#10 v]
  | .wAdpcm0C v => [.adpcmWrite 0x00C#10 v]
  | .wAdpcm0D v => [.adpcmWrite 0x00D#10 v]
  | .wAdpcm0E v => [.adpcmWrite 0x00E#10 v]
  | .rAdpcm09 => [.adpcmRead 0x009#10]
  | .rAdpcm0A => [.adpcmRead 0x00A#10]
  | .rAdpcm0B => [.adpcmRead 0x00B#10]
  | .rAdpcm0C => [.adpcmRead 0x00C#10]
  | .rAdpcm0D => [.adpcmRead 0x00D#10]
  | .rAdpcm0E => [.adpcmRead 0x00E#10]
  | .wFader v => [.faderWrite v]
  | _ => []

/-- The inputs that rewrite the masks without a sink call: RESET, RESTORE and a warm reset (45_system_ops.md R160, R162;
70_reset_and_hazards.md R193). -/
def Input.rewritesSilently : Input → Bool
  | .op (.host h _) => h == 0b00#2 || h == 0b10#2
  | .op _ => false
  | .event .warmReset => true
  | .event _ => false

/-- What is presented is no behaviour of the hardware: the four refusals of 60_exceptions.md R170. -/
def State.presentsNoOperation (s : State) : Bool :=
  match s.inbox with
  | .op (.src q) :: _ => !s.params.sources.getLsbD (srcIndex q).toNat
  | .op (.host h t) :: _ => h == 0b11#2 || (h == 0b10#2 && (t.enabledIrqs &&& 0x83#8) != 0x00#8)
  | .op (.memRead _ n) :: _ => n != 1
  | .op (.memWrite _ n _) :: _ => n != 1
  | _ => false

/-! ### Which words select an operation -/

/-- Every write word at offset `off`, in every image and with every value, decodes to `f` of its value (30_encoding.md R76). -/
def WriteSelects (off : Offset) (f : Byte → Instr) : Prop :=
  ∀ t : BitVec 25, busIsWrite t = true → offsetOf (busAddress t) = off → decode (.bus t) = .ok (f (busValue t))

/-- Every read word at offset `off`, in every image and whatever its value field holds, decodes to `i` (30_encoding.md R76). -/
def ReadSelects (off : Offset) (i : Instr) : Prop :=
  ∀ t : BitVec 25, busIsWrite t = false → offsetOf (busAddress t) = off → decode (.bus t) = .ok i

/-- Every write word with its offset in the range decodes to `f` of its offset and its value. -/
def WriteRangeSelects (lo hi : Offset) (f : Offset → Byte → Instr) : Prop :=
  ∀ t : BitVec 25, busIsWrite t = true → lo ≤ offsetOf (busAddress t) → offsetOf (busAddress t) ≤ hi →
    decode (.bus t) = .ok (f (offsetOf (busAddress t)) (busValue t))

/-- Every read word with its offset in the range decodes to `f` of its offset. -/
def ReadRangeSelects (lo hi : Offset) (f : Offset → Instr) : Prop :=
  ∀ t : BitVec 25, busIsWrite t = false → lo ≤ offsetOf (busAddress t) → offsetOf (busAddress t) ≤ hi →
    decode (.bus t) = .ok (f (offsetOf (busAddress t)))

end Sys2Proof.Machine
end

