-- ==== Sys2Proof/Certificates/Slice0/Obligations.lean ====
section
/-!
DEFINITION. Sys2Proof/Certificates/Slice0/Obligations.lean: the statements for the provers, from the numbered rules of spec/.
A statement about an operation says which words select it (30_encoding.md R76) and what it answers from every state.
`s.afterCalls Config.respond cs` (Sys2Proof/Safety.lean) is `s` after the collaborator calls `cs` in order with their callbacks.
-/

open Sys2Proof Sys2Proof.Machine

/-- When the next entry of the inbox is a transaction that decodes to an operation, step is exec of that operation in the state
whose inbox is the rest, whose result is empty and whose call trace is empty (inbox, result and trace are the model's own
fields: log 1, log 2). (R2, R16, R56, R58) -/
def Obligations.StepRunsThePresentedOperation : Prop :=
  ∀ (s : State) (x : Transaction) (i : Instr) (rest : List Input),
    s.inbox = .op x :: rest → decode x = .ok i →
    step s = exec i { s with inbox := rest, result := .nothing, trace := [] }

/-- MemRead(a, n) and MemWrite(a, n, v) with n not 1 are refused by a step; with n = 1 they decode to what BusRead(a) and
BusWrite(a, v) decode to. The refusal is the spec's own decision D14 (log 14); that one byte is the bus operation is
00_scope.md section 6; that a value above 255 is taken modulo 256 is the model's choice (log 29). (20_memory.md R54,
92_eei_decisions.md D14, 00_scope.md section 6) -/
def Obligations.AccessWidthOtherThanOneIsRefused : Prop :=
  (∀ (s : State) (a : Address) (n v : Nat) (rest : List Input), n ≠ 1 →
    (s.inbox = .op (.memRead a n) :: rest → step s = .refused (.accessWidth n)) ∧
    (s.inbox = .op (.memWrite a n v) :: rest → step s = .refused (.accessWidth n))) ∧
  (∀ (a : Address) (v : Nat),
    decode (.memRead a 1) = decode (.bus (busWord false a 0x00#8)) ∧
    decode (.memWrite a 1 v) = decode (.bus (busWord true a (BitVec.ofNat 8 v))))

/-- Bit 3 of a SRC word chooses IRQSET or IRQCLR and bits 2 to 0 are the index; a step on a word whose index is not in SOURCES is
refused. The 3-bit index is the spec's own choice D3 (log 24) and the refusal outside SOURCES its decision D23 (log 14).
(30_encoding.md R79, 15_interfaces.md R32, 92_eei_decisions.md D3, 92_eei_decisions.md D23) -/
def Obligations.SrcWordsDecodeOrAreRefused : Prop :=
  ∀ q : BitVec 4,
    decode (.src q) = .ok (if q.getLsbD 3 then .irqset (q.extractLsb' 0 3) else .irqclr (q.extractLsb' 0 3)) ∧
    ∀ (s : State) (rest : List Input), s.inbox = .op (.src q) :: rest →
      s.params.sources.getLsbD (q.extractLsb' 0 3).toNat = false →
      step s = .refused (.sourceOutsideSources (q.extractLsb' 0 3))

/-- HOST 00 decodes to RESET, 01 to SNAPSHOT, which returns a tuple, 10 to RESTORE of the tuple beside the word; a step on 11 is
refused. The words, the payload and the refusal of 11 are the spec's own decision D15 (log 14, log 15). (30_encoding.md R80,
92_eei_decisions.md D15) -/
def Obligations.HostWordsDecodeOrAreRefused : Prop :=
  ∀ p : Snapshot,
    decode (.host 0b00#2 p) = .ok .reset ∧ decode (.host 0b01#2 p) = .ok .snapshot ∧
    decode (.host 0b10#2 p) = .ok (.restore p) ∧
    (∀ s : State, ∃ u : Snapshot, exec .snapshot s = .next { s with result := .tuple u }) ∧
    ∀ (s : State) (rest : List Input), s.inbox = .op (.host 0b11#2 p) :: rest → step s = .refused .hostWordUndefined

/-- With nothing presented nothing changes but the model's own result and trace. A collaborators event replaces the collaborators'
state only; a warm reset is RESET or nothing by the parameter; a host sync sets the controller's record to the level. That
these are entries of an inbox is the model's choice (log 1, 18, 20). (R30, R40, R160, R193) -/
def Obligations.StepsWithoutAnOperation : Prop :=
  (∀ s : State, s.inbox = [] → step s = .next { s with result := .nothing, trace := [] }) ∧
  (∀ (s : State) (k : Collaborators) (rest : List Input), s.inbox = .event (.collaborators k) :: rest →
    step s = .next { s with collab := k, inbox := rest, result := .nothing, trace := [] }) ∧
  (∀ (s : State) (rest : List Input), s.inbox = .event .warmReset :: rest →
    (s.params.warmResetResetsBlock = false →
      step s = .next { s with inbox := rest, result := .nothing, trace := [] }) ∧
    (s.params.warmResetResetsBlock = true →
      step s = exec .reset { s with inbox := rest, result := .nothing, trace := [] })) ∧
  (∀ (s : State) (rest : List Input), s.inbox = .event .hostSync :: rest →
    step s = .next
      { s with irqSink := (s.enabledIrqs &&& s.activeIrqs) != 0x00#8, inbox := rest, result := .nothing, trace := [] })

/-- Every step has a next state, on every BUS word among others, but for the four refusals of R170: a SRC index outside SOURCES,
the HOST word 11, a RESTORE tuple that breaks the invariant, an access wider than a byte; each of those is refused, and no
step faults. (R170) -/
def Obligations.StepStopsOnlyOnNoOperation : Prop :=
  ∀ s : State,
    (s.presentsNoOperation = false → ∃ t, step s = .next t) ∧
    (s.presentsNoOperation = true → ∃ r, step s = .refused r) ∧
    (∀ (t : BitVec 25) (rest : List Input), s.inbox = .op (.bus t) :: rest → ∃ u, step s = .next u) ∧
    (∀ f, step s ≠ .fault f)

/-- For every well-formed operation, with every operand at every value the encoding admits, decoding its word gives the operation
back. (R71, R76, R79, R80) -/
def Obligations.EncodedOperationsDecode : Prop :=
  ∀ i : Instr, i.wellFormed = true → decode (encode i) = .ok i

/-- A BUS word decodes to a well-formed operation; encoding that operation gives the word back with address bits 15 to 10 zero
and, for a read, the value field zero: no other bit is dropped. R71 makes the value field of a read zero in canonical form;
that the encoder writes the ignored address bits 15 to 10 as zero is the model's choice (log 16), no rule's. (R71, R76, R78) -/
def Obligations.BusWordsReencodeCanonically : Prop :=
  ∀ t : BitVec 25, ∃ i : Instr, decode (.bus t) = .ok i ∧ i.wellFormed = true ∧
    encode i = .bus (busWord (busIsWrite t) (0#6 ++ offsetOf (busAddress t))
      (if busIsWrite t then busValue t else 0x00#8))

/-- Of the rows written from the opcode table exactly one covers a BUS word, and its mnemonic is that of the operation the decoder
gives; words equal in W, offset and value decode alike. (R76) -/
def Obligations.EveryBusWordMatchesOneRow : Prop :=
  (∀ t : BitVec 25, ∃ i : Instr, decode (.bus t) = .ok i ∧
    (busRows.filter fun r => r.covers t).map (fun r => r.mnemonic) = [i.mnemonic]) ∧
  (∀ t u : BitVec 25, busIsWrite t = busIsWrite u → offsetOf (busAddress t) = offsetOf (busAddress u) →
    busValue t = busValue u → decode (.bus t) = decode (.bus u))

/-- off = address & 0x3FF; the addresses a and a + 0x400*k decode alike for every direction and value; two addresses whose offsets
differ never decode alike (no further mirroring). The images a + 0x400*k are R51's own inference from the mask; that unmapped
offsets of one row decode apart rests on the model's keeping the offset in the operation (log 16). (20_memory.md R51) -/
def Obligations.AddressImagesDecodeAlike : Prop :=
  (∀ a : Address, (offsetOf a).toNat = (a &&& 0x3FF#16).toNat) ∧
  (∀ (w : Bool) (a : Address) (k : Nat) (v : Byte),
    decode (.bus (busWord w (a + BitVec.ofNat 16 (0x400 * k)) v)) = decode (.bus (busWord w a v))) ∧
  (∀ (w : Bool) (a b : Address) (v : Byte),
    decode (.bus (busWord w a v)) = decode (.bus (busWord w b v)) ↔ offsetOf a = offsetOf b)

/-- Nine words of 96_derived_vectors.md section 2.9 decode to the operations listed there, one of each family. (R71, R79, R80) -/
def Obligations.WrittenWordsDecode : Prop :=
  decode (.bus 0x1000081#25) = .ok (.wSelpulse 0x81#8) ∧ decode (.bus 0x0000300#25) = .ok .rIrqStat ∧
  decode (.bus 0x1180780#25) = .ok (.wBramLock 0x80#8) ∧ decode (.bus 0x0000800#25) = .ok .rCdcDataAuto ∧
  decode (.bus 0x018C300#25) = .ok .rId3 ∧ decode (.bus 0x0FFFF00#25) = .ok (.rUnknown200_3FF 0x3FF#10) ∧
  decode (.src 0xD#4) = .ok (.irqset 5#3) ∧ decode (.src 0x5#4) = .ok (.irqclr 5#3) ∧
  ∀ p, decode (.host 1#2 p) = .ok .snapshot

/-- For every write word, every canonical read word, every SRC word, RESET, SNAP and every RESTORE tuple, the line written for it
is read back as it. (R82) -/
def Obligations.TextFormReadsBack : Prop :=
  (∀ (w : Bool) (a : Address) (v : Byte), (w = false → v = 0x00#8) →
    (textOf (.bus (busWord w a v))).bind readText = some (.bus (busWord w a v))) ∧
  (∀ q : BitVec 4, (textOf (.src q)).bind readText = some (.src q)) ∧
  (textOf (.host 0b00#2 noTuple)).bind readText = some (.host 0b00#2 noTuple) ∧
  (textOf (.host 0b01#2 noTuple)).bind readText = some (.host 0b01#2 noTuple) ∧
  (∀ t : Snapshot, (textOf (.host 0b10#2 t)).bind readText = some (.host 0b10#2 t))

/-- In State.reset active_irqs and enabled_irqs are 0x00, bram_locked is true, read_right_channel is false and the derived level
is deasserted. (R17) -/
def Obligations.PowerOnState : Prop :=
  State.reset.activeIrqs = 0x00#8 ∧ State.reset.enabledIrqs = 0x00#8 ∧ State.reset.bramLocked = true ∧
  State.reset.readRightChannel = false ∧ ((State.reset.enabledIrqs &&& State.reset.activeIrqs) != 0x00#8) = false

/-- State.reset has its enables in the writable mask, and the controller's record of the line agrees with the level (its record at
power-on is the environment's duty of R194: log 9). (R12, R17, R194) -/
def Obligations.PowerOnMeetsTheInvariants : Prop :=
  State.reset.EnablesInMask ∧ State.reset.LineAgrees

/-- From every state whose enables lie in the writable mask, every step that has a next state leaves them in it, whatever the
collaborators do. (R12, R21) -/
def Obligations.EveryStepKeepsTheEnablesInMask : Prop :=
  ∀ s t : State, s.EnablesInMask → step s = .next t → t.EnablesInMask

/-- From every state in which the controller's record of the line is the level of the state, every step whose input is not RESET,
RESTORE or a warm reset leaves it so, callbacks included. (R15, R59, R150, R160, R162) -/
def Obligations.EveryStepKeepsTheSinkRecord : Prop :=
  ∀ s t : State, s.LineAgrees → (∀ x rest, s.inbox = x :: rest → x.rewritesSilently = false) → step s = .next t →
    t.LineAgrees

/-- But for RESET, RESTORE and a warm reset: if a step changes active_irqs or enabled_irqs its trace holds a sink call; and
whenever a trace holds a sink call, the last one is assert exactly when the level of the state after the step is asserted, and
the controller has it on record. (R150, R179) -/
def Obligations.ChangedMasksAreReported : Prop :=
  ∀ s t : State, (∀ x rest, s.inbox = x :: rest → x.rewritesSilently = false) → step s = .next t →
    ((t.activeIrqs ≠ s.activeIrqs ∨ t.enabledIrqs ≠ s.enabledIrqs) → ∃ c ∈ t.trace, c.isSink = true) ∧
    ((∃ c ∈ t.trace, c.isSink = true) →
      t.irqSink = t.irqLevel ∧ ∀ before, lastLevel before t.trace = t.irqLevel)

/-- After every step each set_signal, set_data_port and set_ack_with_auto_clear in the trace is followed by one update(), and
every update() is so preceded; the number of changes and of updates of each operation is that of the table of R37. Among the
calls the operation makes itself the update() is the very next call after the change; its trace is those calls, each followed
by the sink calls of that call's own callbacks and by no other (exchange), and then entries that are no collaborator call:
what can stand between a change and its update() is what the change's own callbacks cause. (R37) -/
def Obligations.EveryTraceKeepsTheUpdateDiscipline : Prop :=
  ∀ s t : State, step s = .next t →
    disciplined false t.trace = true ∧
    ∀ (x : Transaction) (i : Instr) (rest : List Input), s.inbox = .op x :: rest → decode x = .ok i →
      (t.trace.countP fun c => c.isChange) = busChanges i s ∧
      (t.trace.countP fun c => c.isUpdate) = busChanges i s ∧
      updatesAtOnce ((callsOf i s).map .collab) = true ∧
      ∃ tail : List Call, (∀ c ∈ tail, c.collabCall? = none) ∧
        t.trace =
          (exchange Config.respond s.params s.enabledIrqs (callsOf i s)
            { collab := s.collab, active := s.activeIrqs, calls := [] }).calls ++ tail

/-- Every operation and every step leaves UNIT_TYPE, IRQ_LINE, SOURCES and WARM_RESET_RESETS_BLOCK as they are (R6). That every
operation leaves State.inbox as it is speaks of the model's own field, a design choice (log 1): R16 says only that the block
holds no such thing, no fetch, sequencer or queue. (00_scope.md R6, 10_state.md R16) -/
def Obligations.ParametersNeverChange : Prop :=
  (∀ s t : State, step s = .next t → t.params = s.params) ∧
  (∀ (i : Instr) (s t : State), exec i s = .next t → t.params = s.params ∧ t.inbox = s.inbox)

/-- Every write word at offset 0x00 is W.SELPULSE; it completes from every state with the four calls in this order, and all that
changes is what those calls and their callbacks change. (R100) -/
def Obligations.SelectPulse : Prop :=
  WriteSelects 0x000#10 .wSelpulse ∧
  ∀ (v : Byte) (s : State),
    exec (.wSelpulse v) s =
      .next (s.afterCalls Config.respond [.setSignal .sel true, .update, .setSignal .sel false, .update])

/-- Every read word at offset 0x00 is R.CDC_STAT; from every state it returns the Adapter's status byte unchanged; no call, no
other change. (R101) -/
def Obligations.ReadControllerStatus : Prop :=
  ReadSelects 0x000#10 .rCdcStat ∧
  ∀ s : State, exec .rCdcStat s = .next { s with result := .byte s.collab.adapter.statusByte }

/-- Every write word at offset 0x01 is W.CDC_DATA; it completes from every state with set_data_port(value) and then update(), and
all that changes is what those calls and their callbacks change. (R102) -/
def Obligations.WriteDataPort : Prop :=
  WriteSelects 0x001#10 .wCdcData ∧
  ∀ (v : Byte) (s : State), exec (.wCdcData v) s = .next (s.afterCalls Config.respond [.setDataPort v, .update])

/-- Every read word at offset 0x01 is R.CDC_DATA; from every state, in every phase, it returns the data-port byte; no call, no
other change. (R103) -/
def Obligations.ReadDataPort : Prop :=
  ReadSelects 0x001#10 .rCdcData ∧
  ∀ s : State, exec .rCdcData s = .next { s with result := .byte s.collab.adapter.dataPort }

/-- Every write word at offset 0x02 is W.IRQ_EN_ACK; from every state it sets ACK to bit 7 and updates, with callbacks judged
against the old enables, then stores value & 0x7C, then makes exactly one sink call with the level of the new enables and the
pending bits as the callbacks left them; lock, flip-flop, result and parameters stay. (R104) -/
def Obligations.WriteEnablesAndAck : Prop :=
  WriteSelects 0x002#10 .wIrqEnAck ∧
  ∀ (v : Byte) (s : State),
    let u := s.afterCalls Config.respond [.setSignal .ack (v.getLsbD 7), .update]
    let level := ((v &&& 0x7C#8) &&& u.activeIrqs) != 0x00#8
    exec (.wIrqEnAck v) s =
      .next
        { u with
          enabledIrqs := v &&& 0x7C#8
          irqSink := level
          trace := u.trace ++ [sinkCall s.params.irqLine level] }

/-- Every read word at offset 0x02 is R.IRQ_EN_ACK; from every state it returns enabled_irqs with 0x80 ORed in when the Adapter's
ACK is asserted; with the enables in their mask bits 1 and 0 of the byte are 0; no call, no other change. (R105) -/
def Obligations.ReadEnablesAndAck : Prop :=
  ReadSelects 0x002#10 .rIrqEnAck ∧
  ∀ s : State,
    exec .rIrqEnAck s =
      .next { s with result := .byte (s.enabledIrqs ||| (if s.collab.adapter.ack then 0x80#8 else 0x00#8)) } ∧
    (s.EnablesInMask →
      (s.enabledIrqs ||| (if s.collab.adapter.ack then 0x80#8 else 0x00#8)) &&& 0x03#8 = 0x00#8)

/-- Every write word at offset 0x03 is W.IRQ_STAT; from every state the next state is the same state: no field, no call, no log.
(R106) -/
def Obligations.WriteStatusHasNoEffect : Prop :=
  WriteSelects 0x003#10 .wIrqStat ∧ ∀ (v : Byte) (s : State), exec (.wIrqStat v) s = .next s

/-- Every read word at offset 0x03 is R.IRQ_STAT; from every state it sets bram_locked, negates read_right_channel, and returns
active_irqs with 0x02 ORed in when the new flip-flop is false; nothing else changes and no call is made. (R107) -/
def Obligations.ReadStatusLocksAndToggles : Prop :=
  ReadSelects 0x003#10 .rIrqStat ∧
  ∀ s : State,
    exec .rIrqStat s =
      .next
        { s with
          bramLocked := true
          readRightChannel := !s.readRightChannel
          result := .byte (s.activeIrqs ||| (if !s.readRightChannel then 0x00#8 else 0x02#8)) }

/-- Every write word at offset 0x04 is W.CDC_RESET; from every state it sets RST to bit 1 and updates; with bit 1 set it then
clears enables 4 to 6 and makes exactly one sink call with the resulting level; with bit 1 clear it does nothing more. (R108) -/
def Obligations.WriteBusReset : Prop :=
  WriteSelects 0x004#10 .wCdcReset ∧
  ∀ (v : Byte) (s : State),
    (v.getLsbD 1 = true →
      let u := s.afterCalls Config.respond [.setSignal .rst true, .update]
      let level := ((s.enabledIrqs &&& 0x8F#8) &&& u.activeIrqs) != 0x00#8
      exec (.wCdcReset v) s =
        .next
          { u with
            enabledIrqs := s.enabledIrqs &&& 0x8F#8
            irqSink := level
            trace := u.trace ++ [sinkCall s.params.irqLine level] }) ∧
    (v.getLsbD 1 = false →
      exec (.wCdcReset v) s = .next (s.afterCalls Config.respond [.setSignal .rst false, .update]))

/-- Every read word at offset 0x04 is R.CDC_RESET; from every state it returns 0x02 when the Adapter's RST is asserted and 0x00
when not; no call, no other change. (R109) -/
def Obligations.ReadBusReset : Prop :=
  ReadSelects 0x004#10 .rCdcReset ∧
  ∀ s : State,
    exec .rCdcReset s = .next { s with result := .byte (if s.collab.adapter.rst then 0x02#8 else 0x00#8) }

/-- Every write word at offsets 0x05 and 0x06 is W.SAMPLE_LO and W.SAMPLE_HI; from every state the next state is the same state:
nothing stored, nothing logged. (R110, R112) -/
def Obligations.SampleWritesHaveNoEffect : Prop :=
  WriteSelects 0x005#10 .wSampleLo ∧ WriteSelects 0x006#10 .wSampleHi ∧
  ∀ (v : Byte) (s : State), exec (.wSampleLo v) s = .next s ∧ exec (.wSampleHi v) s = .next s

/-- Every read word at offsets 0x05 and 0x06 is R.SAMPLE_LO and R.SAMPLE_HI; from every state they return bits 7:0 and 15:8 of the
right sample when the flip-flop is true, of the left when it is false; nothing else changes, the flip-flop included. (R111,
R113) -/
def Obligations.SampleReadsReturnTheSelectedChannel : Prop :=
  ReadSelects 0x005#10 .rSampleLo ∧ ReadSelects 0x006#10 .rSampleHi ∧
  ∀ s : State,
    let sample := if s.readRightChannel then s.collab.cdAudio.right else s.collab.cdAudio.left
    exec .rSampleLo s = .next { s with result := .byte (sample.setWidth 8) } ∧
    exec .rSampleHi s = .next { s with result := .byte ((sample >>> 8).setWidth 8) }

/-- Every write word at offset 0x07 is W.BRAM_LOCK; from every state, with bit 7 set bram_locked becomes false and nothing else
changes; with bit 7 clear nothing changes. (R114) -/
def Obligations.WriteBramUnlock : Prop :=
  WriteSelects 0x007#10 .wBramLock ∧
  ∀ (v : Byte) (s : State),
    (v.getLsbD 7 = true → exec (.wBramLock v) s = .next { s with bramLocked := false }) ∧
    (v.getLsbD 7 = false → exec (.wBramLock v) s = .next s)

/-- Every read word at offset 0x07 is R.BRAM_LOCK; from every state it returns 0x00 when bram_locked and 0x80 when not; no call,
no other change. (R115) -/
def Obligations.ReadBramLock : Prop :=
  ReadSelects 0x007#10 .rBramLock ∧
  ∀ s : State, exec .rBramLock s = .next { s with result := .byte (if s.bramLocked then 0x00#8 else 0x80#8) }

/-- Every write word at offset 0x08 to 0x0E is its own row; from every state each makes exactly one Adpcm.write(off, value) with
the byte unchanged, and all that changes is what that call and its callbacks change. (R120, R122, R124, R126, R128, R130,
R132) -/
def Obligations.AdpcmWritesAreForwarded : Prop :=
  WriteSelects 0x008#10 .wAdpcm08 ∧
  WriteSelects 0x009#10 .wAdpcm09 ∧
  WriteSelects 0x00A#10 .wAdpcm0A ∧
  WriteSelects 0x00B#10 .wAdpcm0B ∧
  WriteSelects 0x00C#10 .wAdpcm0C ∧
  WriteSelects 0x00D#10 .wAdpcm0D ∧
  WriteSelects 0x00E#10 .wAdpcm0E ∧
  ∀ (v : Byte) (s : State),
    exec (.wAdpcm08 v) s = .next (s.afterCalls Config.respond [.adpcmWrite 0x008#10 v]) ∧
    exec (.wAdpcm09 v) s = .next (s.afterCalls Config.respond [.adpcmWrite 0x009#10 v]) ∧
    exec (.wAdpcm0A v) s = .next (s.afterCalls Config.respond [.adpcmWrite 0x00A#10 v]) ∧
    exec (.wAdpcm0B v) s = .next (s.afterCalls Config.respond [.adpcmWrite 0x00B#10 v]) ∧
    exec (.wAdpcm0C v) s = .next (s.afterCalls Config.respond [.adpcmWrite 0x00C#10 v]) ∧
    exec (.wAdpcm0D v) s = .next (s.afterCalls Config.respond [.adpcmWrite 0x00D#10 v]) ∧
    exec (.wAdpcm0E v) s = .next (s.afterCalls Config.respond [.adpcmWrite 0x00E#10 v])

/-- Every read word at offset 0x08 is R.CDC_DATA_AUTO; from every state it returns the data port as it was before any call; when
REQ and IO are asserted and CD is not it makes set_ack_with_auto_clear() and then update(), otherwise no call. That the read
returns the data port and is not forwarded to the ADPCM delegate is the spec's own decision D11 on its conflict C5 (log 11).
(42_delegate_registers.md R121, 92_eei_decisions.md D11, 90_conflicts.md C5) -/
def Obligations.StreamingReadAcknowledgesInDataPhase : Prop :=
  ReadSelects 0x008#10 .rCdcDataAuto ∧
  ∀ s : State,
    ((s.collab.adapter.req = true ∧ s.collab.adapter.io = true ∧ s.collab.adapter.cd = false) →
      exec .rCdcDataAuto s =
        .next
          { s.afterCalls Config.respond [.setAckWithAutoClear, .update] with
            result := .byte s.collab.adapter.dataPort }) ∧
    (¬ (s.collab.adapter.req = true ∧ s.collab.adapter.io = true ∧ s.collab.adapter.cd = false) →
      exec .rCdcDataAuto s = .next { s with result := .byte s.collab.adapter.dataPort })

/-- Every read word at offset 0x09 to 0x0E is its own row; from every state each makes exactly one Adpcm.read(off), returns the
byte the delegate answers, and all else that changes is what that call and its callbacks change. (R123, R125, R127, R129,
R131, R133) -/
def Obligations.AdpcmReadsAreForwarded : Prop :=
  ReadSelects 0x009#10 .rAdpcm09 ∧
  ReadSelects 0x00A#10 .rAdpcm0A ∧
  ReadSelects 0x00B#10 .rAdpcm0B ∧
  ReadSelects 0x00C#10 .rAdpcm0C ∧
  ReadSelects 0x00D#10 .rAdpcm0D ∧
  ReadSelects 0x00E#10 .rAdpcm0E ∧
  ∀ s : State,
    exec .rAdpcm09 s =
      .next
        { s.afterCalls Config.respond [.adpcmRead 0x009#10] with
          result := .byte (Config.respond s.collab (.adpcmRead 0x009#10)).data } ∧
    exec .rAdpcm0A s =
      .next
        { s.afterCalls Config.respond [.adpcmRead 0x00A#10] with
          result := .byte (Config.respond s.collab (.adpcmRead 0x00A#10)).data } ∧
    exec .rAdpcm0B s =
      .next
        { s.afterCalls Config.respond [.adpcmRead 0x00B#10] with
          result := .byte (Config.respond s.collab (.adpcmRead 0x00B#10)).data } ∧
    exec .rAdpcm0C s =
      .next
        { s.afterCalls Config.respond [.adpcmRead 0x00C#10] with
          result := .byte (Config.respond s.collab (.adpcmRead 0x00C#10)).data } ∧
    exec .rAdpcm0D s =
      .next
        { s.afterCalls Config.respond [.adpcmRead 0x00D#10] with
          result := .byte (Config.respond s.collab (.adpcmRead 0x00D#10)).data } ∧
    exec .rAdpcm0E s =
      .next
        { s.afterCalls Config.respond [.adpcmRead 0x00E#10] with
          result := .byte (Config.respond s.collab (.adpcmRead 0x00E#10)).data }

/-- Every write word at offset 0x0F is W.FADER; from every state it makes exactly one Fader.write(value), and all that changes is
what that call and its callbacks change. (R134) -/
def Obligations.FaderWriteIsForwarded : Prop :=
  WriteSelects 0x00F#10 .wFader ∧
  ∀ (v : Byte) (s : State), exec (.wFader v) s = .next (s.afterCalls Config.respond [.faderWrite v])

/-- Every read word at 0x0F, at 0x10 to 0xBF and at 0xC4 to 0x3FF decodes to its unknown-read row; from every state each logs READ
with its offset and returns 0xFF; nothing else changes. (R135, R145) -/
def Obligations.UnknownReadsReturnOpenBus : Prop :=
  ReadSelects 0x00F#10 .rUnknown0F ∧
  ReadRangeSelects 0x010#10 0x01F#10 .rUnknown010_01F ∧
  ReadRangeSelects 0x020#10 0x03F#10 .rUnknown020_03F ∧
  ReadRangeSelects 0x040#10 0x07F#10 .rUnknown040_07F ∧
  ReadRangeSelects 0x080#10 0x0BF#10 .rUnknown080_0BF ∧
  ReadRangeSelects 0x0C4#10 0x0C7#10 .rUnknown0C4_0C7 ∧
  ReadRangeSelects 0x0C8#10 0x0CF#10 .rUnknown0C8_0CF ∧
  ReadRangeSelects 0x0D0#10 0x0DF#10 .rUnknown0D0_0DF ∧
  ReadRangeSelects 0x0E0#10 0x0FF#10 .rUnknown0E0_0FF ∧
  ReadRangeSelects 0x100#10 0x1FF#10 .rUnknown100_1FF ∧
  ReadRangeSelects 0x200#10 0x3FF#10 .rUnknown200_3FF ∧
  ∀ (off : Offset) (s : State),
    exec .rUnknown0F s = .next { s with result := .byte 0xFF#8, trace := s.trace ++ [.logUnknownRead 0x00F#10] } ∧
    exec (.rUnknown010_01F off) s = .next { s with result := .byte 0xFF#8, trace := s.trace ++ [.logUnknownRead off] } ∧
    exec (.rUnknown020_03F off) s = .next { s with result := .byte 0xFF#8, trace := s.trace ++ [.logUnknownRead off] } ∧
    exec (.rUnknown040_07F off) s = .next { s with result := .byte 0xFF#8, trace := s.trace ++ [.logUnknownRead off] } ∧
    exec (.rUnknown080_0BF off) s = .next { s with result := .byte 0xFF#8, trace := s.trace ++ [.logUnknownRead off] } ∧
    exec (.rUnknown0C4_0C7 off) s = .next { s with result := .byte 0xFF#8, trace := s.trace ++ [.logUnknownRead off] } ∧
    exec (.rUnknown0C8_0CF off) s = .next { s with result := .byte 0xFF#8, trace := s.trace ++ [.logUnknownRead off] } ∧
    exec (.rUnknown0D0_0DF off) s = .next { s with result := .byte 0xFF#8, trace := s.trace ++ [.logUnknownRead off] } ∧
    exec (.rUnknown0E0_0FF off) s = .next { s with result := .byte 0xFF#8, trace := s.trace ++ [.logUnknownRead off] } ∧
    exec (.rUnknown100_1FF off) s = .next { s with result := .byte 0xFF#8, trace := s.trace ++ [.logUnknownRead off] } ∧
    exec (.rUnknown200_3FF off) s = .next { s with result := .byte 0xFF#8, trace := s.trace ++ [.logUnknownRead off] }

/-- Every write word at 0xC0 to 0xC3 and at any other offset from 0x10 up decodes to its unknown-write row; from every state each
logs WRITE with its offset and value; nothing else changes. That writes of 0xC0 to 0xC3 are logged is the spec's own decision
D12 (log 13). (43_id_and_unmapped.md R144, 43_id_and_unmapped.md R146, 92_eei_decisions.md D12) -/
def Obligations.UnknownWritesAreOnlyLogged : Prop :=
  WriteSelects 0x0C0#10 .wUnknownC0 ∧
  WriteSelects 0x0C1#10 .wUnknownC1 ∧
  WriteSelects 0x0C2#10 .wUnknownC2 ∧
  WriteSelects 0x0C3#10 .wUnknownC3 ∧
  WriteRangeSelects 0x010#10 0x01F#10 .wUnknown010_01F ∧
  WriteRangeSelects 0x020#10 0x03F#10 .wUnknown020_03F ∧
  WriteRangeSelects 0x040#10 0x07F#10 .wUnknown040_07F ∧
  WriteRangeSelects 0x080#10 0x0BF#10 .wUnknown080_0BF ∧
  WriteRangeSelects 0x0C4#10 0x0C7#10 .wUnknown0C4_0C7 ∧
  WriteRangeSelects 0x0C8#10 0x0CF#10 .wUnknown0C8_0CF ∧
  WriteRangeSelects 0x0D0#10 0x0DF#10 .wUnknown0D0_0DF ∧
  WriteRangeSelects 0x0E0#10 0x0FF#10 .wUnknown0E0_0FF ∧
  WriteRangeSelects 0x100#10 0x1FF#10 .wUnknown100_1FF ∧
  WriteRangeSelects 0x200#10 0x3FF#10 .wUnknown200_3FF ∧
  ∀ (off : Offset) (v : Byte) (s : State),
    exec (.wUnknownC0 v) s = .next { s with trace := s.trace ++ [.logUnknownWrite 0x0C0#10 v] } ∧
    exec (.wUnknownC1 v) s = .next { s with trace := s.trace ++ [.logUnknownWrite 0x0C1#10 v] } ∧
    exec (.wUnknownC2 v) s = .next { s with trace := s.trace ++ [.logUnknownWrite 0x0C2#10 v] } ∧
    exec (.wUnknownC3 v) s = .next { s with trace := s.trace ++ [.logUnknownWrite 0x0C3#10 v] } ∧
    exec (.wUnknown010_01F off v) s = .next { s with trace := s.trace ++ [.logUnknownWrite off v] } ∧
    exec (.wUnknown020_03F off v) s = .next { s with trace := s.trace ++ [.logUnknownWrite off v] } ∧
    exec (.wUnknown040_07F off v) s = .next { s with trace := s.trace ++ [.logUnknownWrite off v] } ∧
    exec (.wUnknown080_0BF off v) s = .next { s with trace := s.trace ++ [.logUnknownWrite off v] } ∧
    exec (.wUnknown0C4_0C7 off v) s = .next { s with trace := s.trace ++ [.logUnknownWrite off v] } ∧
    exec (.wUnknown0C8_0CF off v) s = .next { s with trace := s.trace ++ [.logUnknownWrite off v] } ∧
    exec (.wUnknown0D0_0DF off v) s = .next { s with trace := s.trace ++ [.logUnknownWrite off v] } ∧
    exec (.wUnknown0E0_0FF off v) s = .next { s with trace := s.trace ++ [.logUnknownWrite off v] } ∧
    exec (.wUnknown100_1FF off v) s = .next { s with trace := s.trace ++ [.logUnknownWrite off v] } ∧
    exec (.wUnknown200_3FF off v) s = .next { s with trace := s.trace ++ [.logUnknownWrite off v] }

/-- Every read word at 0xC0 to 0xC3 is its own row; from every state they return 0xFF four times with UNIT_TYPE Base, and 0x00,
0xAA, 0x55, 0x03 with Enhanced; no call, no log, no other change. (R140, R141, R142, R143) -/
def Obligations.IdentificationReads : Prop :=
  ReadSelects 0x0C0#10 .rId0 ∧
  ReadSelects 0x0C1#10 .rId1 ∧
  ReadSelects 0x0C2#10 .rId2 ∧
  ReadSelects 0x0C3#10 .rId3 ∧
  ∀ s : State,
    (s.params.unitType = .base →
      exec .rId0 s = .next { s with result := .byte 0xFF#8 } ∧
      exec .rId1 s = .next { s with result := .byte 0xFF#8 } ∧
      exec .rId2 s = .next { s with result := .byte 0xFF#8 } ∧
      exec .rId3 s = .next { s with result := .byte 0xFF#8 }) ∧
    (s.params.unitType = .enhanced →
      exec .rId0 s = .next { s with result := .byte 0x00#8 } ∧
      exec .rId1 s = .next { s with result := .byte 0xAA#8 } ∧
      exec .rId2 s = .next { s with result := .byte 0x55#8 } ∧
      exec .rId3 s = .next { s with result := .byte 0x03#8 })

/-- From every state the recomputation appends exactly one sink call on IRQ_LINE, assert when enabled & active is not zero and
deassert when it is; the controller has it on record; nothing else changes. (R150) -/
def Obligations.RecomputationReportsTheLevel : Prop :=
  ∀ s : State,
    (s.enabledIrqs &&& s.activeIrqs ≠ 0x00#8 →
      s.updateIrqLine = { s with irqSink := true, trace := s.trace ++ [.irqAssert s.params.irqLine] }) ∧
    (s.enabledIrqs &&& s.activeIrqs = 0x00#8 →
      s.updateIrqLine = { s with irqSink := false, trace := s.trace ++ [.irqDeassert s.params.irqLine] })

/-- From every state, for an index in SOURCES: if bit b is clear it becomes set and exactly one sink call reports the new level;
if it is set nothing changes and no call is made; for an index outside SOURCES the operation is refused. The refusal is
decision D23 of the spec (log 14). (44_irq_ops.md R151, 92_eei_decisions.md D23) -/
def Obligations.SetSource : Prop :=
  ∀ (b : SourceIndex) (s : State),
    decode (.src (srcWord true b)) = .ok (.irqset b) ∧
    (s.params.sources.getLsbD b.toNat = true →
      (s.activeIrqs &&& 1#8 <<< b.toNat = 0x00#8 →
        let active := s.activeIrqs ||| 1#8 <<< b.toNat
        let level := (s.enabledIrqs &&& active) != 0x00#8
        exec (.irqset b) s =
          .next
            { s with
              activeIrqs := active
              irqSink := level
              trace := s.trace ++ [sinkCall s.params.irqLine level] }) ∧
      (s.activeIrqs &&& 1#8 <<< b.toNat ≠ 0x00#8 → exec (.irqset b) s = .next s)) ∧
    (s.params.sources.getLsbD b.toNat = false → exec (.irqset b) s = .refused (.sourceOutsideSources b))

/-- From every state, for an index in SOURCES: if bit b is set it becomes clear and exactly one sink call reports the new level;
if it is clear nothing changes and no call is made; for an index outside SOURCES the operation is refused. The refusal is
decision D23 of the spec (log 14). (44_irq_ops.md R152, 15_interfaces.md R32, 92_eei_decisions.md D23) -/
def Obligations.ClearSource : Prop :=
  ∀ (b : SourceIndex) (s : State),
    decode (.src (srcWord false b)) = .ok (.irqclr b) ∧
    (s.params.sources.getLsbD b.toNat = true →
      (s.activeIrqs &&& 1#8 <<< b.toNat ≠ 0x00#8 →
        let active := s.activeIrqs &&& ~~~ (1#8 <<< b.toNat)
        let level := (s.enabledIrqs &&& active) != 0x00#8
        exec (.irqclr b) s =
          .next
            { s with
              activeIrqs := active
              irqSink := level
              trace := s.trace ++ [sinkCall s.params.irqLine level] }) ∧
      (s.activeIrqs &&& 1#8 <<< b.toNat = 0x00#8 → exec (.irqclr b) s = .next s)) ∧
    (s.params.sources.getLsbD b.toNat = false → exec (.irqclr b) s = .refused (.sourceOutsideSources b))

/-- HOST 00 is RESET; from every state both masks become 0x00, bram_locked true and read_right_channel false; no call is made and
nothing else changes, the collaborators, the parameters and the controller's record of the line among it. That no call is made
is the spec's own decision D18 (log 23), and that the controller's record stays follows from it (log 9). (45_system_ops.md
R160, 92_eei_decisions.md D18) -/
def Obligations.ResetOperation : Prop :=
  (∀ p : Snapshot, decode (.host 0b00#2 p) = .ok .reset) ∧
  ∀ s : State,
    exec .reset s =
      .next { s with activeIrqs := 0x00#8, enabledIrqs := 0x00#8, bramLocked := true, readRightChannel := false }

/-- HOST 01 is SNAPSHOT; from every state it returns the tuple of the four fields; no field changes and no call is made. (R161) -/
def Obligations.SnapshotOperation : Prop :=
  (∀ p : Snapshot, decode (.host 0b01#2 p) = .ok .snapshot) ∧
  ∀ s : State,
    exec .snapshot s =
      .next
        { s with
          result := .tuple
            { activeIrqs := s.activeIrqs, enabledIrqs := s.enabledIrqs, bramLocked := s.bramLocked,
              readRightChannel := s.readRightChannel } }

/-- HOST 10 is RESTORE of the tuple beside it; from every state, with enabled & 0x83 = 0 the four fields become the tuple's, no
call is made and nothing else changes; otherwise the operation is refused. The refusal is the spec's own decision D19 (log
14), the absence of a call its decision D18 (log 23). (45_system_ops.md R162, 92_eei_decisions.md D18, 92_eei_decisions.md
D19) -/
def Obligations.RestoreOperation : Prop :=
  ∀ (t : Snapshot),
    decode (.host 0b10#2 t) = .ok (.restore t) ∧
    ∀ s : State,
      (t.enabledIrqs &&& 0x83#8 = 0x00#8 →
        exec (.restore t) s =
          .next
            { s with
              activeIrqs := t.activeIrqs
              enabledIrqs := t.enabledIrqs
              bramLocked := t.bramLocked
              readRightChannel := t.readRightChannel }) ∧
      (t.enabledIrqs &&& 0x83#8 ≠ 0x00#8 → exec (.restore t) s = .refused (.restoreBreaksInvariant t))

/-- After W 0x02 with value v, in whatever state the collaborators are then provided ACK is as the write set it (premise AckHeld),
R 0x02 returns v & 0xFC. (R39, R104, R105) -/
def Obligations.EnablesReadBackUnderAckHeld : Prop :=
  ∀ (v : Byte) (s t : State) (k : Collaborators), exec (.wIrqEnAck v) s = .next t → k.adapter.ack = v.getLsbD 7 →
    exec .rIrqEnAck { t with collab := k } = .next { t with collab := k, result := .byte (v &&& 0xFC#8) }

/-- From every state with active_irqs bit 1 clear, two successive R 0x03 return bytes that differ in exactly bit 1, leave BRAM
locked and the flip-flop as it was. (R57, R107) -/
def Obligations.TwoStatusReadsDifferInBitOne : Prop :=
  ∀ s : State, s.activeIrqs.getLsbD 1 = false →
    ∃ (t u : State) (b c : Byte), exec .rIrqStat s = .next t ∧ exec .rIrqStat t = .next u ∧
      t.result = .byte b ∧ u.result = .byte c ∧ b ^^^ c = 0x02#8 ∧
      u.bramLocked = true ∧ u.readRightChannel = s.readRightChannel

/-- Every other operation, and W 0x04 with bit 1 clear, leaves enabled_irqs as it is, whatever the collaborators call back. (R12,
R21) -/
def Obligations.EnablesAreWrittenByFourOperations : Prop :=
  ∀ (i : Instr) (s t : State), exec i s = .next t →
    (∀ v, i ≠ .wIrqEnAck v) → (∀ v, i = .wCdcReset v → v.getLsbD 1 = false) → i ≠ .reset → (∀ u, i ≠ .restore u) →
    t.enabledIrqs = s.enabledIrqs

/-- If an operation makes bram_locked false it is W 0x07 with bit 7 set or RESTORE; if it makes it true it is R 0x03, RESET or
RESTORE. (R13, R114, R107) -/
def Obligations.LockChangesOnlyAsStated : Prop :=
  ∀ (i : Instr) (s t : State), exec i s = .next t →
    (s.bramLocked = true → t.bramLocked = false →
      (∃ v, i = .wBramLock v ∧ v.getLsbD 7 = true) ∨ ∃ u, i = .restore u) ∧
    (s.bramLocked = false → t.bramLocked = true → i = .rIrqStat ∨ i = .reset ∨ ∃ u, i = .restore u)

/-- If an operation changes the flip-flop it is R 0x03, RESET or RESTORE; in particular no write and no sample read changes it.
(R14, R21) -/
def Obligations.FlipFlopChangesOnlyByStatusRead : Prop :=
  ∀ (i : Instr) (s t : State), exec i s = .next t → t.readRightChannel ≠ s.readRightChannel →
    i = .rIrqStat ∨ i = .reset ∨ ∃ u, i = .restore u

/-- The collaborator calls every operation makes are callsOf of it, in that order. An operation that is not IRQSET, IRQCLR, RESET
or RESTORE leaves active_irqs as the callbacks heard during those calls, in order, leave it; where it makes none, as it is. A
pending bit b that becomes set does so by IRQSET(b), by RESTORE of a tuple with bit b set, or by a setting callback for b
heard during the operation's own calls; one that becomes clear by IRQCLR(b), RESET, RESTORE of a tuple with bit b clear, or a
clearing callback for b heard there. (R11, R41, R175) -/
def Obligations.PendingBitsChangeOnlyBySources : Prop :=
  ∀ (i : Instr) (s t : State), exec i s = .next t →
    let heard := callbacksHeard Config.respond s.params (callsOf i s) s.collab
    t.trace.filterMap Call.collabCall? = s.trace.filterMap Call.collabCall? ++ callsOf i s ∧
    ((∀ b, i ≠ .irqset b) → (∀ b, i ≠ .irqclr b) → i ≠ .reset → (∀ u, i ≠ .restore u) →
      t.activeIrqs = maskAfter s.activeIrqs heard) ∧
    (∀ b : SourceIndex, s.activeIrqs.getLsbD b.toNat = false → t.activeIrqs.getLsbD b.toNat = true →
      i = .irqset b ∨ (∃ u, i = .restore u ∧ u.activeIrqs.getLsbD b.toNat = true) ∨ Callback.set b ∈ heard) ∧
    (∀ b : SourceIndex, s.activeIrqs.getLsbD b.toNat = true → t.activeIrqs.getLsbD b.toNat = false →
      i = .irqclr b ∨ i = .reset ∨ (∃ u, i = .restore u ∧ u.activeIrqs.getLsbD b.toNat = false) ∨
        Callback.clear b ∈ heard)

/-- If IRQSET(b), or IRQCLR(b), has a next state, the same operation from there leaves that state exactly as it is, its trace
included. (R151, R152) -/
def Obligations.SourceOperationsAreIdempotent : Prop :=
  ∀ (b : SourceIndex) (s t : State),
    (exec (.irqset b) s = .next t → exec (.irqset b) t = .next t) ∧
    (exec (.irqclr b) s = .next t → exec (.irqclr b) t = .next t)

/-- For two source operations with different indexes, both orders from one state end in states equal in every field but the call
trace: the pending bits and the level on record do not depend on the order. (R178) -/
def Obligations.SourceOperationsCommute : Prop :=
  ∀ (i j : Instr) (b c : SourceIndex) (s t u t' u' : State), b ≠ c →
    (i = .irqset b ∨ i = .irqclr b) → (j = .irqset c ∨ j = .irqclr c) →
    exec i s = .next t → exec j t = .next u → exec j s = .next t' → exec i t' = .next u' →
    { u with trace := [] } = { u' with trace := [] }

/-- With the enables in the writable mask, the level depends only on bits 2 to 6 of active_irqs: changing bits 0, 1 and 7 leaves
it. (R12, R15) -/
def Obligations.OnlyWritableBitsReachTheLine : Prop :=
  ∀ (s : State) (a : Byte), s.EnablesInMask → a &&& 0x7C#8 = s.activeIrqs &&& 0x7C#8 →
    ({ s with activeIrqs := a } : State).irqLevel = s.irqLevel

/-- From a state with its enables in the mask SNAPSHOT returns a tuple whose RESTORE leaves that state as it is; after any RESTORE
that has a next state SNAPSHOT returns the tuple restored. (R21, R161, R162) -/
def Obligations.SnapshotThenRestoreChangesNothing : Prop :=
  (∀ s : State, s.EnablesInMask → ∃ u, exec .snapshot s = .next { s with result := .tuple u } ∧ exec (.restore u) s = .next s) ∧
  (∀ (t : Snapshot) (s r : State), exec (.restore t) s = .next r → exec .snapshot r = .next { r with result := .tuple t })

/-- For every environment: after the call set_signal(l, v) line l is at v, and after set_data_port(d) the data port holds d. This
is the model's assumption about the Adapter (log 4), imposed where a call is made (Collaborators.settle): R39 says that a
model may assume this law and no other (decision D7), not that it is a fact. (R39, R41, 92_eei_decisions.md D7) -/
def Obligations.SetThenCheckLaw : Prop :=
  ∀ (env : Environment) (s : State),
    (∀ (l : SignalLine) (v : Bool), (s.call env (.setSignal l v)).collab.adapter.checkSignal l = v) ∧
    (∀ d : Byte, (s.call env (.setDataPort d)).collab.adapter.dataPort = d)

/-- From the state RESET leaves, whatever came before: each read returns the value R191 lists (the spec marks the list as its own
inference from R17 and the read rules). (R191) -/
def Obligations.FirstReadsAfterReset : Prop :=
  ∀ s t : State, exec .reset s = .next t →
    t.irqLevel = false ∧
    exec .rIrqEnAck t = .next { t with result := .byte (if t.collab.adapter.ack then 0x80#8 else 0x00#8) } ∧
    exec .rBramLock t = .next { t with result := .byte 0x00#8 } ∧
    exec .rSampleLo t = .next { t with result := .byte (t.collab.cdAudio.left.setWidth 8) } ∧
    exec .rSampleHi t = .next { t with result := .byte ((t.collab.cdAudio.left >>> 8).setWidth 8) } ∧
    ∃ u : State, exec .rIrqStat t = .next u ∧ u.result = .byte 0x00#8 ∧
      ∃ w : State, exec .rIrqStat u = .next w ∧ w.result = .byte 0x02#8

/-- From every state: after W 0x07 with 0x80 a read of 0x07 returns 0x80; after a further R 0x03 it returns 0x00. (R107, R114,
R115, R196) -/
def Obligations.UnlockThenStatusReadRelocks : Prop :=
  ∀ s : State, ∃ t u w x : State,
    exec (.wBramLock 0x80#8) s = .next t ∧ exec .rBramLock t = .next u ∧ u.result = .byte 0x80#8 ∧
    exec .rIrqStat u = .next w ∧ exec .rBramLock w = .next x ∧ x.result = .byte 0x00#8
end

