-- ==== Sys2Proof/Laws/Encoding.lean ====
section
/-! SUPPORT. Sys2Proof/Laws/Encoding.lean: the fields of a word built from its fields, and a word from its own fields. -/
namespace Sys2Proof.Machine

/-- The bits of a BUS word (R71): the value, then the address, then `W`. -/
theorem getLsbD_busWord (w : Bool) (a : Address) (v : Byte) (i : Nat) :
    (busWord w a v).getLsbD i =
      if i < 8 then v.getLsbD i else if i - 8 < 16 then a.getLsbD (i - 8) else (BitVec.ofBool w).getLsbD (i - 8 - 16) := by
  have h := BitVec.getLsbD_append (x := (BitVec.ofBool w ++ a : BitVec (1 + 16))) (y := v) (i := i)
  have h' := BitVec.getLsbD_append (x := BitVec.ofBool w) (y := a) (i := i - 8)
  rw [h'] at h
  exact h

/-- The bits of the lowest image of an offset (R51). -/
theorem getLsbD_addressOf (off : Offset) (i : Nat) :
    (addressOf off).getLsbD i = if i < 10 then off.getLsbD i else (0#6).getLsbD (i - 10) :=
  BitVec.getLsbD_append

@[simp] theorem busIsWrite_busWord (w : Bool) (a : Address) (v : Byte) : busIsWrite (busWord w a v) = w := by
  rw [busIsWrite, getLsbD_busWord]
  cases w <;> rfl

@[simp] theorem busAddress_busWord (w : Bool) (a : Address) (v : Byte) : busAddress (busWord w a v) = a := by
  ext i hi
  have h8 : ¬ 8 + i < 8 := by omega
  simp only [busAddress, BitVec.getElem_extractLsb', getLsbD_busWord, h8, if_false, Nat.add_sub_cancel_left, hi, if_true]
  exact BitVec.getLsbD_eq_getElem hi

@[simp] theorem busValue_busWord (w : Bool) (a : Address) (v : Byte) : busValue (busWord w a v) = v := by
  ext i hi
  simp only [busValue, BitVec.getElem_extractLsb', getLsbD_busWord, Nat.zero_add, hi, if_true]
  exact BitVec.getLsbD_eq_getElem hi

@[simp] theorem offsetOf_addressOf (off : Offset) : offsetOf (addressOf off) = off := by
  ext i hi
  simp only [offsetOf, BitVec.getElem_extractLsb', getLsbD_addressOf, Nat.zero_add, hi, if_true]
  exact BitVec.getLsbD_eq_getElem hi

@[simp] theorem srcIsSet_srcWord (w : Bool) (b : SourceIndex) : srcIsSet (srcWord w b) = w := by
  revert w b
  decide

@[simp] theorem srcIndex_srcWord (w : Bool) (b : SourceIndex) : srcIndex (srcWord w b) = b := by
  revert w b
  decide

/-- A BUS word is the word of its own fields. -/
theorem busWord_fields (t : BitVec 25) : busWord (busIsWrite t) (busAddress t) (busValue t) = t := by
  apply BitVec.eq_of_getLsbD_eq
  intro i hi
  rw [getLsbD_busWord]
  by_cases h8 : i < 8
  · simp [h8, busValue]
  · by_cases h24 : i - 8 < 16
    · have : 8 + (i - 8) = i := by omega
      simp only [busAddress, BitVec.getLsbD_extractLsb', h8, h24, this, if_false, if_true, decide_true, Bool.true_and]
    · have : i = 24 := by omega
      subst this
      rw [if_neg h8, if_neg h24, busIsWrite]
      cases t.getLsbD 24 <;> rfl

/-- A SRC word is the word of its own fields. -/
theorem srcWord_fields (q : BitVec 4) : srcWord (srcIsSet q) (srcIndex q) = q := by
  revert q
  decide

end Sys2Proof.Machine
end

