-- ==== Sys2Proof/Laws/State.lean ====
section
/-! SUPPORT. Sys2Proof/Laws/State.lean: each field of `State` after each update, and after the four plainest operations. -/
namespace Sys2Proof.Machine

@[simp] theorem State.withActive_activeIrqs (x : Byte) (s : State) : (s.withActive x).activeIrqs = x := rfl
@[simp] theorem State.withActive_enabledIrqs (x : Byte) (s : State) : (s.withActive x).enabledIrqs = s.enabledIrqs := rfl
@[simp] theorem State.withActive_bramLocked (x : Byte) (s : State) : (s.withActive x).bramLocked = s.bramLocked := rfl
@[simp] theorem State.withActive_readRightChannel (x : Byte) (s : State) : (s.withActive x).readRightChannel = s.readRightChannel := rfl
@[simp] theorem State.withActive_collab (x : Byte) (s : State) : (s.withActive x).collab = s.collab := rfl
@[simp] theorem State.withActive_irqSink (x : Byte) (s : State) : (s.withActive x).irqSink = s.irqSink := rfl
@[simp] theorem State.withActive_params (x : Byte) (s : State) : (s.withActive x).params = s.params := rfl
@[simp] theorem State.withActive_result (x : Byte) (s : State) : (s.withActive x).result = s.result := rfl
@[simp] theorem State.withActive_trace (x : Byte) (s : State) : (s.withActive x).trace = s.trace := rfl
@[simp] theorem State.withActive_inbox (x : Byte) (s : State) : (s.withActive x).inbox = s.inbox := rfl

@[simp] theorem State.withEnabled_activeIrqs (x : Byte) (s : State) : (s.withEnabled x).activeIrqs = s.activeIrqs := rfl
@[simp] theorem State.withEnabled_enabledIrqs (x : Byte) (s : State) : (s.withEnabled x).enabledIrqs = x := rfl
@[simp] theorem State.withEnabled_bramLocked (x : Byte) (s : State) : (s.withEnabled x).bramLocked = s.bramLocked := rfl
@[simp] theorem State.withEnabled_readRightChannel (x : Byte) (s : State) : (s.withEnabled x).readRightChannel = s.readRightChannel := rfl
@[simp] theorem State.withEnabled_collab (x : Byte) (s : State) : (s.withEnabled x).collab = s.collab := rfl
@[simp] theorem State.withEnabled_irqSink (x : Byte) (s : State) : (s.withEnabled x).irqSink = s.irqSink := rfl
@[simp] theorem State.withEnabled_params (x : Byte) (s : State) : (s.withEnabled x).params = s.params := rfl
@[simp] theorem State.withEnabled_result (x : Byte) (s : State) : (s.withEnabled x).result = s.result := rfl
@[simp] theorem State.withEnabled_trace (x : Byte) (s : State) : (s.withEnabled x).trace = s.trace := rfl
@[simp] theorem State.withEnabled_inbox (x : Byte) (s : State) : (s.withEnabled x).inbox = s.inbox := rfl

@[simp] theorem State.withLocked_activeIrqs (x : Bool) (s : State) : (s.withLocked x).activeIrqs = s.activeIrqs := rfl
@[simp] theorem State.withLocked_enabledIrqs (x : Bool) (s : State) : (s.withLocked x).enabledIrqs = s.enabledIrqs := rfl
@[simp] theorem State.withLocked_bramLocked (x : Bool) (s : State) : (s.withLocked x).bramLocked = x := rfl
@[simp] theorem State.withLocked_readRightChannel (x : Bool) (s : State) : (s.withLocked x).readRightChannel = s.readRightChannel := rfl
@[simp] theorem State.withLocked_collab (x : Bool) (s : State) : (s.withLocked x).collab = s.collab := rfl
@[simp] theorem State.withLocked_irqSink (x : Bool) (s : State) : (s.withLocked x).irqSink = s.irqSink := rfl
@[simp] theorem State.withLocked_params (x : Bool) (s : State) : (s.withLocked x).params = s.params := rfl
@[simp] theorem State.withLocked_result (x : Bool) (s : State) : (s.withLocked x).result = s.result := rfl
@[simp] theorem State.withLocked_trace (x : Bool) (s : State) : (s.withLocked x).trace = s.trace := rfl
@[simp] theorem State.withLocked_inbox (x : Bool) (s : State) : (s.withLocked x).inbox = s.inbox := rfl

@[simp] theorem State.withRight_activeIrqs (x : Bool) (s : State) : (s.withRight x).activeIrqs = s.activeIrqs := rfl
@[simp] theorem State.withRight_enabledIrqs (x : Bool) (s : State) : (s.withRight x).enabledIrqs = s.enabledIrqs := rfl
@[simp] theorem State.withRight_bramLocked (x : Bool) (s : State) : (s.withRight x).bramLocked = s.bramLocked := rfl
@[simp] theorem State.withRight_readRightChannel (x : Bool) (s : State) : (s.withRight x).readRightChannel = x := rfl
@[simp] theorem State.withRight_collab (x : Bool) (s : State) : (s.withRight x).collab = s.collab := rfl
@[simp] theorem State.withRight_irqSink (x : Bool) (s : State) : (s.withRight x).irqSink = s.irqSink := rfl
@[simp] theorem State.withRight_params (x : Bool) (s : State) : (s.withRight x).params = s.params := rfl
@[simp] theorem State.withRight_result (x : Bool) (s : State) : (s.withRight x).result = s.result := rfl
@[simp] theorem State.withRight_trace (x : Bool) (s : State) : (s.withRight x).trace = s.trace := rfl
@[simp] theorem State.withRight_inbox (x : Bool) (s : State) : (s.withRight x).inbox = s.inbox := rfl

@[simp] theorem State.withCollab_activeIrqs (x : Collaborators) (s : State) : (s.withCollab x).activeIrqs = s.activeIrqs := rfl
@[simp] theorem State.withCollab_enabledIrqs (x : Collaborators) (s : State) : (s.withCollab x).enabledIrqs = s.enabledIrqs := rfl
@[simp] theorem State.withCollab_bramLocked (x : Collaborators) (s : State) : (s.withCollab x).bramLocked = s.bramLocked := rfl
@[simp] theorem State.withCollab_readRightChannel (x : Collaborators) (s : State) : (s.withCollab x).readRightChannel = s.readRightChannel := rfl
@[simp] theorem State.withCollab_collab (x : Collaborators) (s : State) : (s.withCollab x).collab = x := rfl
@[simp] theorem State.withCollab_irqSink (x : Collaborators) (s : State) : (s.withCollab x).irqSink = s.irqSink := rfl
@[simp] theorem State.withCollab_params (x : Collaborators) (s : State) : (s.withCollab x).params = s.params := rfl
@[simp] theorem State.withCollab_result (x : Collaborators) (s : State) : (s.withCollab x).result = s.result := rfl
@[simp] theorem State.withCollab_trace (x : Collaborators) (s : State) : (s.withCollab x).trace = s.trace := rfl
@[simp] theorem State.withCollab_inbox (x : Collaborators) (s : State) : (s.withCollab x).inbox = s.inbox := rfl

@[simp] theorem State.withSink_activeIrqs (x : Bool) (s : State) : (s.withSink x).activeIrqs = s.activeIrqs := rfl
@[simp] theorem State.withSink_enabledIrqs (x : Bool) (s : State) : (s.withSink x).enabledIrqs = s.enabledIrqs := rfl
@[simp] theorem State.withSink_bramLocked (x : Bool) (s : State) : (s.withSink x).bramLocked = s.bramLocked := rfl
@[simp] theorem State.withSink_readRightChannel (x : Bool) (s : State) : (s.withSink x).readRightChannel = s.readRightChannel := rfl
@[simp] theorem State.withSink_collab (x : Bool) (s : State) : (s.withSink x).collab = s.collab := rfl
@[simp] theorem State.withSink_irqSink (x : Bool) (s : State) : (s.withSink x).irqSink = x := rfl
@[simp] theorem State.withSink_params (x : Bool) (s : State) : (s.withSink x).params = s.params := rfl
@[simp] theorem State.withSink_result (x : Bool) (s : State) : (s.withSink x).result = s.result := rfl
@[simp] theorem State.withSink_trace (x : Bool) (s : State) : (s.withSink x).trace = s.trace := rfl
@[simp] theorem State.withSink_inbox (x : Bool) (s : State) : (s.withSink x).inbox = s.inbox := rfl

@[simp] theorem State.withResult_activeIrqs (x : Result) (s : State) : (s.withResult x).activeIrqs = s.activeIrqs := rfl
@[simp] theorem State.withResult_enabledIrqs (x : Result) (s : State) : (s.withResult x).enabledIrqs = s.enabledIrqs := rfl
@[simp] theorem State.withResult_bramLocked (x : Result) (s : State) : (s.withResult x).bramLocked = s.bramLocked := rfl
@[simp] theorem State.withResult_readRightChannel (x : Result) (s : State) : (s.withResult x).readRightChannel = s.readRightChannel := rfl
@[simp] theorem State.withResult_collab (x : Result) (s : State) : (s.withResult x).collab = s.collab := rfl
@[simp] theorem State.withResult_irqSink (x : Result) (s : State) : (s.withResult x).irqSink = s.irqSink := rfl
@[simp] theorem State.withResult_params (x : Result) (s : State) : (s.withResult x).params = s.params := rfl
@[simp] theorem State.withResult_result (x : Result) (s : State) : (s.withResult x).result = x := rfl
@[simp] theorem State.withResult_trace (x : Result) (s : State) : (s.withResult x).trace = s.trace := rfl
@[simp] theorem State.withResult_inbox (x : Result) (s : State) : (s.withResult x).inbox = s.inbox := rfl

@[simp] theorem State.withTrace_activeIrqs (x : List Call) (s : State) : (s.withTrace x).activeIrqs = s.activeIrqs := rfl
@[simp] theorem State.withTrace_enabledIrqs (x : List Call) (s : State) : (s.withTrace x).enabledIrqs = s.enabledIrqs := rfl
@[simp] theorem State.withTrace_bramLocked (x : List Call) (s : State) : (s.withTrace x).bramLocked = s.bramLocked := rfl
@[simp] theorem State.withTrace_readRightChannel (x : List Call) (s : State) : (s.withTrace x).readRightChannel = s.readRightChannel := rfl
@[simp] theorem State.withTrace_collab (x : List Call) (s : State) : (s.withTrace x).collab = s.collab := rfl
@[simp] theorem State.withTrace_irqSink (x : List Call) (s : State) : (s.withTrace x).irqSink = s.irqSink := rfl
@[simp] theorem State.withTrace_params (x : List Call) (s : State) : (s.withTrace x).params = s.params := rfl
@[simp] theorem State.withTrace_result (x : List Call) (s : State) : (s.withTrace x).result = s.result := rfl
@[simp] theorem State.withTrace_trace (x : List Call) (s : State) : (s.withTrace x).trace = x := rfl
@[simp] theorem State.withTrace_inbox (x : List Call) (s : State) : (s.withTrace x).inbox = s.inbox := rfl

@[simp] theorem State.withInbox_activeIrqs (x : List Input) (s : State) : (s.withInbox x).activeIrqs = s.activeIrqs := rfl
@[simp] theorem State.withInbox_enabledIrqs (x : List Input) (s : State) : (s.withInbox x).enabledIrqs = s.enabledIrqs := rfl
@[simp] theorem State.withInbox_bramLocked (x : List Input) (s : State) : (s.withInbox x).bramLocked = s.bramLocked := rfl
@[simp] theorem State.withInbox_readRightChannel (x : List Input) (s : State) : (s.withInbox x).readRightChannel = s.readRightChannel := rfl
@[simp] theorem State.withInbox_collab (x : List Input) (s : State) : (s.withInbox x).collab = s.collab := rfl
@[simp] theorem State.withInbox_irqSink (x : List Input) (s : State) : (s.withInbox x).irqSink = s.irqSink := rfl
@[simp] theorem State.withInbox_params (x : List Input) (s : State) : (s.withInbox x).params = s.params := rfl
@[simp] theorem State.withInbox_result (x : List Input) (s : State) : (s.withInbox x).result = s.result := rfl
@[simp] theorem State.withInbox_trace (x : List Input) (s : State) : (s.withInbox x).trace = s.trace := rfl
@[simp] theorem State.withInbox_inbox (x : List Input) (s : State) : (s.withInbox x).inbox = x := rfl

@[simp] theorem State.emit_activeIrqs (c : Call) (s : State) : (s.emit c).activeIrqs = s.activeIrqs := rfl
@[simp] theorem State.emit_enabledIrqs (c : Call) (s : State) : (s.emit c).enabledIrqs = s.enabledIrqs := rfl
@[simp] theorem State.emit_bramLocked (c : Call) (s : State) : (s.emit c).bramLocked = s.bramLocked := rfl
@[simp] theorem State.emit_readRightChannel (c : Call) (s : State) : (s.emit c).readRightChannel = s.readRightChannel := rfl
@[simp] theorem State.emit_collab (c : Call) (s : State) : (s.emit c).collab = s.collab := rfl
@[simp] theorem State.emit_irqSink (c : Call) (s : State) : (s.emit c).irqSink = s.irqSink := rfl
@[simp] theorem State.emit_params (c : Call) (s : State) : (s.emit c).params = s.params := rfl
@[simp] theorem State.emit_result (c : Call) (s : State) : (s.emit c).result = s.result := rfl
@[simp] theorem State.emit_trace (c : Call) (s : State) : (s.emit c).trace = s.trace ++ [c] := rfl
@[simp] theorem State.emit_inbox (c : Call) (s : State) : (s.emit c).inbox = s.inbox := rfl

@[simp] theorem State.reply_activeIrqs (b : Byte) (s : State) : (s.reply b).activeIrqs = s.activeIrqs := rfl
@[simp] theorem State.reply_enabledIrqs (b : Byte) (s : State) : (s.reply b).enabledIrqs = s.enabledIrqs := rfl
@[simp] theorem State.reply_bramLocked (b : Byte) (s : State) : (s.reply b).bramLocked = s.bramLocked := rfl
@[simp] theorem State.reply_readRightChannel (b : Byte) (s : State) : (s.reply b).readRightChannel = s.readRightChannel := rfl
@[simp] theorem State.reply_collab (b : Byte) (s : State) : (s.reply b).collab = s.collab := rfl
@[simp] theorem State.reply_irqSink (b : Byte) (s : State) : (s.reply b).irqSink = s.irqSink := rfl
@[simp] theorem State.reply_params (b : Byte) (s : State) : (s.reply b).params = s.params := rfl
@[simp] theorem State.reply_result (b : Byte) (s : State) : (s.reply b).result = .byte b := rfl
@[simp] theorem State.reply_trace (b : Byte) (s : State) : (s.reply b).trace = s.trace := rfl
@[simp] theorem State.reply_inbox (b : Byte) (s : State) : (s.reply b).inbox = s.inbox := rfl

@[simp] theorem State.begin_activeIrqs (r : List Input) (s : State) : (s.begin r).activeIrqs = s.activeIrqs := rfl
@[simp] theorem State.begin_enabledIrqs (r : List Input) (s : State) : (s.begin r).enabledIrqs = s.enabledIrqs := rfl
@[simp] theorem State.begin_bramLocked (r : List Input) (s : State) : (s.begin r).bramLocked = s.bramLocked := rfl
@[simp] theorem State.begin_readRightChannel (r : List Input) (s : State) : (s.begin r).readRightChannel = s.readRightChannel := rfl
@[simp] theorem State.begin_collab (r : List Input) (s : State) : (s.begin r).collab = s.collab := rfl
@[simp] theorem State.begin_irqSink (r : List Input) (s : State) : (s.begin r).irqSink = s.irqSink := rfl
@[simp] theorem State.begin_params (r : List Input) (s : State) : (s.begin r).params = s.params := rfl
@[simp] theorem State.begin_result (r : List Input) (s : State) : (s.begin r).result = .nothing := rfl
@[simp] theorem State.begin_trace (r : List Input) (s : State) : (s.begin r).trace = [] := rfl
@[simp] theorem State.begin_inbox (r : List Input) (s : State) : (s.begin r).inbox = r := rfl

@[simp] theorem State.install_activeIrqs (t : Snapshot) (s : State) : (s.install t).activeIrqs = t.activeIrqs := rfl
@[simp] theorem State.install_enabledIrqs (t : Snapshot) (s : State) : (s.install t).enabledIrqs = t.enabledIrqs := rfl
@[simp] theorem State.install_bramLocked (t : Snapshot) (s : State) : (s.install t).bramLocked = t.bramLocked := rfl
@[simp] theorem State.install_readRightChannel (t : Snapshot) (s : State) : (s.install t).readRightChannel = t.readRightChannel := rfl
@[simp] theorem State.install_collab (t : Snapshot) (s : State) : (s.install t).collab = s.collab := rfl
@[simp] theorem State.install_irqSink (t : Snapshot) (s : State) : (s.install t).irqSink = s.irqSink := rfl
@[simp] theorem State.install_params (t : Snapshot) (s : State) : (s.install t).params = s.params := rfl
@[simp] theorem State.install_result (t : Snapshot) (s : State) : (s.install t).result = s.result := rfl
@[simp] theorem State.install_trace (t : Snapshot) (s : State) : (s.install t).trace = s.trace := rfl
@[simp] theorem State.install_inbox (t : Snapshot) (s : State) : (s.install t).inbox = s.inbox := rfl

end Sys2Proof.Machine
end

