-- ==== Sys2Proof/Laws/Ops.lean ====
section
/-!
SUPPORT. Sys2Proof/Laws/Ops.lean: for each shared operation one lemma that says all it does, so that later proofs cite it and do
not unfold it.
-/
namespace Sys2Proof.Machine

/-! ### Masks -/

/-- Setting a bit that is clear changes the byte. -/
theorem or_sourceMask_eq_self (a : Byte) (b : SourceIndex) :
    a ||| sourceMask b = a ↔ a &&& sourceMask b ≠ 0x00#8 := by
  revert b
  have h : ∀ (a : Byte) (i : Fin 8), a ||| 1#8 <<< i.val = a ↔ a &&& 1#8 <<< i.val ≠ 0x00#8 := by decide
  intro b
  exact h a ⟨b.toNat, b.isLt⟩

/-- Clearing a bit that is set changes the byte. -/
theorem and_not_sourceMask_eq_self (a : Byte) (b : SourceIndex) :
    a &&& ~~~ sourceMask b = a ↔ a &&& sourceMask b = 0x00#8 := by
  revert b
  have h : ∀ (a : Byte) (i : Fin 8), a &&& ~~~ (1#8 <<< i.val) = a ↔ a &&& 1#8 <<< i.val = 0x00#8 := by decide
  intro b
  exact h a ⟨b.toNat, b.isLt⟩

/-! ### The recomputation and the sources -/

/-- `UpdateIrqLine()` makes one sink call with the level of the state, and changes nothing else (R150). -/
theorem updateIrqLine_eq (s : State) :
    s.updateIrqLine =
      { s with irqSink := s.irqLevel, trace := s.trace ++ [sinkCall s.params.irqLine s.irqLevel] } := by
  unfold State.updateIrqLine sinkCall
  cases s.irqLevel <;> rfl

/-- One callback: the new pending bits, and one sink call if they changed (R151, R152). -/
theorem runCallback_eq (s : State) (c : Callback) :
    s.runCallback c =
      { s with
        activeIrqs := maskAfter s.activeIrqs [c]
        trace := s.trace ++ sinkCalls s.params.irqLine s.enabledIrqs s.activeIrqs [c]
        irqSink := lastLevel s.irqSink (sinkCalls s.params.irqLine s.enabledIrqs s.activeIrqs [c]) } := by
  cases c with
  | set b =>
    have hb := or_sourceMask_eq_self s.activeIrqs b
    unfold sourceMask at hb
    by_cases h : s.activeIrqs &&& 1#8 <<< b.toNat = 0x00#8
    · have hne : ¬ (s.activeIrqs ||| 1#8 <<< b.toNat = s.activeIrqs) := fun e => hb.mp e h
      simp only [State.runCallback, State.setSource, sourceMask, h, if_true, updateIrqLine_eq, maskAfter, maskAfterOne, sinkCalls,
        hne, if_false, State.irqLevel, levelOf, State.withActive]
      cases ((s.enabledIrqs &&& (s.activeIrqs ||| 1#8 <<< b.toNat)) != 0x00#8) <;> rfl
    · have he : s.activeIrqs ||| 1#8 <<< b.toNat = s.activeIrqs := hb.mpr h
      simp [State.runCallback, State.setSource, sourceMask, h, maskAfter, maskAfterOne, sinkCalls, he, lastLevel]
  | clear b =>
    have hb := and_not_sourceMask_eq_self s.activeIrqs b
    unfold sourceMask at hb
    by_cases h : s.activeIrqs &&& 1#8 <<< b.toNat = 0x00#8
    · have he : s.activeIrqs &&& ~~~ (1#8 <<< b.toNat) = s.activeIrqs := hb.mpr h
      simp [State.runCallback, State.clearSource, sourceMask, h, maskAfter, maskAfterOne, sinkCalls, he, lastLevel]
    · have hne : ¬ (s.activeIrqs &&& ~~~ (1#8 <<< b.toNat) = s.activeIrqs) := fun e => h (hb.mp e)
      simp only [State.runCallback, State.clearSource, sourceMask, h, if_false, updateIrqLine_eq, maskAfter, maskAfterOne,
        sinkCalls, hne, State.irqLevel, levelOf, State.withActive]
      cases ((s.enabledIrqs &&& (s.activeIrqs &&& ~~~ (1#8 <<< b.toNat))) != 0x00#8) <;> rfl

/-- The last level of two lists is that of the second, with the first's as what was before. -/
theorem lastLevel_append (b : Bool) (l r : List Call) : lastLevel b (l ++ r) = lastLevel (lastLevel b l) r := by
  induction l generalizing b with
  | nil => rfl
  | cons c cs ih => cases c <;> simp [lastLevel, ih]

/-- The sink calls of a list are those of its head and then those of its tail from the bits the head leaves. -/
theorem sinkCalls_cons (line : Nat) (e a : Byte) (c : Callback) (cs : List Callback) :
    sinkCalls line e a (c :: cs) = sinkCalls line e a [c] ++ sinkCalls line e (maskAfterOne a c) cs := by
  by_cases h : maskAfterOne a c = a <;> simp [sinkCalls, h]

/-- A list of callbacks, all heard. -/
theorem foldl_runCallback_eq (cbs : List Callback) (s : State) :
    cbs.foldl State.runCallback s =
      { s with
        activeIrqs := maskAfter s.activeIrqs cbs
        trace := s.trace ++ sinkCalls s.params.irqLine s.enabledIrqs s.activeIrqs cbs
        irqSink := lastLevel s.irqSink (sinkCalls s.params.irqLine s.enabledIrqs s.activeIrqs cbs) } := by
  induction cbs generalizing s with
  | nil => simp [maskAfter, sinkCalls, lastLevel]
  | cons c cs ih =>
    rw [List.foldl_cons, ih, runCallback_eq]
    simp only [maskAfter]
    rw [sinkCalls_cons s.params.irqLine s.enabledIrqs s.activeIrqs c cs, lastLevel_append, List.append_assoc]

/-- The callbacks of one call change the pending bits, the sink's record and the trace, and nothing else (R41). -/
theorem runCallbacks_eq (cbs : List Callback) (s : State) :
    s.runCallbacks cbs =
      { s with
        activeIrqs := maskAfter s.activeIrqs (s.params.heard cbs)
        trace := s.trace ++ sinkCalls s.params.irqLine s.enabledIrqs s.activeIrqs (s.params.heard cbs)
        irqSink := lastLevel s.irqSink (sinkCalls s.params.irqLine s.enabledIrqs s.activeIrqs (s.params.heard cbs)) } :=
  foldl_runCallback_eq _ s

/-! ### Calls on the collaborators -/

/-- One effectful call is the sequence of that call alone. -/
theorem call_eq (env : Environment) (c : CollabCall) (s : State) : s.call env c = s.afterCalls env [c] := by
  unfold State.call
  rw [runCallbacks_eq]
  simp [State.afterCalls, exchange, heardFrom, Params.heard, Params.admits, State.emit, State.withTrace, State.withCollab,
    List.append_assoc, lastLevel]

/-- Calls already made stay in front of those still to come. -/
theorem exchange_calls (env : Environment) (p : Params) (e : Byte) (cs : List CollabCall) (x : Exchange) (l : List Call) :
    exchange env p e cs { x with calls := l ++ x.calls } =
      { exchange env p e cs x with calls := l ++ (exchange env p e cs x).calls } := by
  induction cs generalizing x with
  | nil => rfl
  | cons c cs ih =>
    have := ih
      { collab := (env x.collab c).collab.settle c
        active := maskAfter x.active (heardFrom env p x.collab c)
        calls := x.calls ++ .collab c :: sinkCalls p.irqLine e x.active (heardFrom env p x.collab c) }
    simpa only [exchange, List.append_assoc] using this

/-- Two sequences one after the other are their concatenation. -/
theorem exchange_append (env : Environment) (p : Params) (e : Byte) (cs ds : List CollabCall) (x : Exchange) :
    exchange env p e (cs ++ ds) x = exchange env p e ds (exchange env p e cs x) := by
  induction cs generalizing x with
  | nil => rfl
  | cons c cs ih => exact ih _

/-- Two lists of callbacks one after the other are their concatenation. -/
theorem maskAfter_append (a : Byte) (l r : List Callback) : maskAfter a (l ++ r) = maskAfter (maskAfter a l) r := by
  induction l generalizing a with
  | nil => rfl
  | cons c cs ih => exact ih _

/-- The pending bits after a sequence of calls are those its callbacks leave. -/
theorem exchange_active (env : Environment) (p : Params) (e : Byte) (cs : List CollabCall) (x : Exchange) :
    (exchange env p e cs x).active = maskAfter x.active (callbacksHeard env p cs x.collab) := by
  induction cs generalizing x with
  | nil => rfl
  | cons c cs ih => rw [exchange, ih, callbacksHeard, maskAfter_append]

/-- Sink calls are no collaborator calls. -/
theorem filterMap_sinkCalls (line : Nat) (e a : Byte) (cbs : List Callback) :
    (sinkCalls line e a cbs).filterMap Call.collabCall? = [] := by
  induction cbs generalizing a with
  | nil => rfl
  | cons c cs ih =>
    unfold sinkCalls
    split
    · exact ih a
    · unfold sinkCall
      split <;> exact ih _

/-- The collaborator calls of a sequence are the sequence. -/
theorem exchange_collabCalls (env : Environment) (p : Params) (e : Byte) (cs : List CollabCall) (x : Exchange) :
    (exchange env p e cs x).calls.filterMap Call.collabCall? = x.calls.filterMap Call.collabCall? ++ cs := by
  induction cs generalizing x with
  | nil => simp [exchange]
  | cons c cs ih =>
    rw [exchange, ih]
    simp [filterMap_sinkCalls, Call.collabCall?]

/-- Two sequences of calls one after the other are their concatenation. -/
theorem afterCalls_append (env : Environment) (cs ds : List CollabCall) (s : State) :
    (s.afterCalls env cs).afterCalls env ds = s.afterCalls env (cs ++ ds) := by
  simp only [State.afterCalls, exchange_append]
  generalize exchange env s.params s.enabledIrqs cs { collab := s.collab, active := s.activeIrqs, calls := [] } = x
  have h := exchange_calls env s.params s.enabledIrqs ds { collab := x.collab, active := x.active, calls := [] } x.calls
  rw [List.append_nil] at h
  have hx : ({ collab := x.collab, active := x.active, calls := x.calls } : Exchange) = x := rfl
  rw [hx] at h
  rw [h]
  simp [lastLevel_append, List.append_assoc]

@[simp] theorem afterCalls_enabledIrqs (env : Environment) (cs : List CollabCall) (s : State) :
    (s.afterCalls env cs).enabledIrqs = s.enabledIrqs := rfl
@[simp] theorem afterCalls_bramLocked (env : Environment) (cs : List CollabCall) (s : State) :
    (s.afterCalls env cs).bramLocked = s.bramLocked := rfl
@[simp] theorem afterCalls_readRightChannel (env : Environment) (cs : List CollabCall) (s : State) :
    (s.afterCalls env cs).readRightChannel = s.readRightChannel := rfl
@[simp] theorem afterCalls_params (env : Environment) (cs : List CollabCall) (s : State) :
    (s.afterCalls env cs).params = s.params := rfl
@[simp] theorem afterCalls_result (env : Environment) (cs : List CollabCall) (s : State) :
    (s.afterCalls env cs).result = s.result := rfl
@[simp] theorem afterCalls_inbox (env : Environment) (cs : List CollabCall) (s : State) :
    (s.afterCalls env cs).inbox = s.inbox := rfl

/-- A change followed by its update. -/
theorem callThenUpdate_eq (env : Environment) (c : CollabCall) (s : State) :
    s.callThenUpdate env c = s.afterCalls env [c, .update] := by
  rw [State.callThenUpdate, call_eq, call_eq, afterCalls_append]
  rfl

/-- The select pulse is four calls. -/
theorem pulseSelect_eq (env : Environment) (s : State) :
    s.pulseSelect env = s.afterCalls env [.setSignal .sel true, .update, .setSignal .sel false, .update] := by
  rw [State.pulseSelect, callThenUpdate_eq, callThenUpdate_eq, afterCalls_append]
  rfl

/-- The set-then-check law for lines: the line just set is at the level set (R39). -/
theorem checkSignal_settle (k : Collaborators) (line : SignalLine) (v : Bool) :
    (k.settle (.setSignal line v)).adapter.checkSignal line = v := by
  cases line <;> rfl

end Sys2Proof.Machine
end

