-- ==== Sys2Proof/Laws/PerInstr.lean ====
section
/-!
SUPPORT. Sys2Proof/Laws/PerInstr.lean: the statements made per operation, about the operation as syntax.

EncodeMatchesRow: the BUS word of a well-formed operation lies under the `match` and `mask` of the opcode table's row of that
operation's mnemonic (spec/30_encoding.md R76, R83).
-/
namespace Sys2Proof.Laws

open Sys2Proof.Machine

/-- No row tests the value field, so the word may be looked at with the value zero (R71). -/
theorem covers_value (r : BusRow) (h : r.mask25 &&& 0xFF#25 = 0#25) (w : Bool) (a : Address) (v : Byte) :
    r.covers (busWord w a v) = r.covers (busWord w a 0x00#8) := by
  have e : busWord w a v &&& r.mask25 = busWord w a 0x00#8 &&& r.mask25 := by
    apply BitVec.eq_of_getLsbD_eq
    intro i _
    rw [BitVec.getLsbD_and, BitVec.getLsbD_and, getLsbD_busWord, getLsbD_busWord]
    by_cases h8 : i < 8
    · have hm : (r.mask25 &&& 0xFF#25).getLsbD i = false := by rw [h]; simp
      have hf : (0xFF#25).getLsbD i = true := by
        have : ∀ j : Fin 8, (0xFF#25).getLsbD j.val = true := by decide
        exact this ⟨i, h8⟩
      rw [BitVec.getLsbD_and, hf, Bool.and_true] at hm
      rw [hm, Bool.and_false, Bool.and_false]
    · rw [if_neg h8, if_neg h8]
  rw [BusRow.covers, BusRow.covers, e]

namespace EncodeMatchesRow

/-- The BUS word of the operation lies in the row of its mnemonic. -/
def Statement (i : Instr) : Prop :=
  i.wellFormed = true → ∀ t : BitVec 25, encode i = .bus t → ∃ r ∈ busRows, r.mnemonic = i.mnemonic ∧ r.covers t = true

theorem wSelpulse (v : Byte) : Statement (.wSelpulse v) := by
  intro _ _ h
  cases h
  refine ⟨{ mnemonic := "W.SELPULSE", match25 := 0x1000000#25, mask25 := 0x103FF00#25 }, by decide, rfl, ?_⟩
  rw [covers_value _ (by decide)]
  decide

theorem wCdcData (v : Byte) : Statement (.wCdcData v) := by
  intro _ _ h
  cases h
  refine ⟨{ mnemonic := "W.CDC_DATA", match25 := 0x1000100#25, mask25 := 0x103FF00#25 }, by decide, rfl, ?_⟩
  rw [covers_value _ (by decide)]
  decide

theorem wIrqEnAck (v : Byte) : Statement (.wIrqEnAck v) := by
  intro _ _ h
  cases h
  refine ⟨{ mnemonic := "W.IRQ_EN_ACK", match25 := 0x1000200#25, mask25 := 0x103FF00#25 }, by decide, rfl, ?_⟩
  rw [covers_value _ (by decide)]
  decide

theorem wIrqStat (v : Byte) : Statement (.wIrqStat v) := by
  intro _ _ h
  cases h
  refine ⟨{ mnemonic := "W.IRQ_STAT", match25 := 0x1000300#25, mask25 := 0x103FF00#25 }, by decide, rfl, ?_⟩
  rw [covers_value _ (by decide)]
  decide

theorem wCdcReset (v : Byte) : Statement (.wCdcReset v) := by
  intro _ _ h
  cases h
  refine ⟨{ mnemonic := "W.CDC_RESET", match25 := 0x1000400#25, mask25 := 0x103FF00#25 }, by decide, rfl, ?_⟩
  rw [covers_value _ (by decide)]
  decide

theorem wSampleLo (v : Byte) : Statement (.wSampleLo v) := by
  intro _ _ h
  cases h
  refine ⟨{ mnemonic := "W.SAMPLE_LO", match25 := 0x1000500#25, mask25 := 0x103FF00#25 }, by decide, rfl, ?_⟩
  rw [covers_value _ (by decide)]
  decide

theorem wSampleHi (v : Byte) : Statement (.wSampleHi v) := by
  intro _ _ h
  cases h
  refine ⟨{ mnemonic := "W.SAMPLE_HI", match25 := 0x1000600#25, mask25 := 0x103FF00#25 }, by decide, rfl, ?_⟩
  rw [covers_value _ (by decide)]
  decide

theorem wBramLock (v : Byte) : Statement (.wBramLock v) := by
  intro _ _ h
  cases h
  refine ⟨{ mnemonic := "W.BRAM_LOCK", match25 := 0x1000700#25, mask25 := 0x103FF00#25 }, by decide, rfl, ?_⟩
  rw [covers_value _ (by decide)]
  decide

theorem wAdpcm08 (v : Byte) : Statement (.wAdpcm08 v) := by
  intro _ _ h
  cases h
  refine ⟨{ mnemonic := "W.ADPCM_08", match25 := 0x1000800#25, mask25 := 0x103FF00#25 }, by decide, rfl, ?_⟩
  rw [covers_value _ (by decide)]
  decide

theorem wAdpcm09 (v : Byte) : Statement (.wAdpcm09 v) := by
  intro _ _ h
  cases h
  refine ⟨{ mnemonic := "W.ADPCM_09", match25 := 0x1000900#25, mask25 := 0x103FF00#25 }, by decide, rfl, ?_⟩
  rw [covers_value _ (by decide)]
  decide

theorem wAdpcm0A (v : Byte) : Statement (.wAdpcm0A v) := by
  intro _ _ h
  cases h
  refine ⟨{ mnemonic := "W.ADPCM_0A", match25 := 0x1000A00#25, mask25 := 0x103FF00#25 }, by decide, rfl, ?_⟩
  rw [covers_value _ (by decide)]
  decide

theorem wAdpcm0B (v : Byte) : Statement (.wAdpcm0B v) := by
  intro _ _ h
  cases h
  refine ⟨{ mnemonic := "W.ADPCM_0B", match25 := 0x1000B00#25, mask25 := 0x103FF00#25 }, by decide, rfl, ?_⟩
  rw [covers_value _ (by decide)]
  decide

theorem wAdpcm0C (v : Byte) : Statement (.wAdpcm0C v) := by
  intro _ _ h
  cases h
  refine ⟨{ mnemonic := "W.ADPCM_0C", match25 := 0x1000C00#25, mask25 := 0x103FF00#25 }, by decide, rfl, ?_⟩
  rw [covers_value _ (by decide)]
  decide

theorem wAdpcm0D (v : Byte) : Statement (.wAdpcm0D v) := by
  intro _ _ h
  cases h
  refine ⟨{ mnemonic := "W.ADPCM_0D", match25 := 0x1000D00#25, mask25 := 0x103FF00#25 }, by decide, rfl, ?_⟩
  rw [covers_value _ (by decide)]
  decide

theorem wAdpcm0E (v : Byte) : Statement (.wAdpcm0E v) := by
  intro _ _ h
  cases h
  refine ⟨{ mnemonic := "W.ADPCM_0E", match25 := 0x1000E00#25, mask25 := 0x103FF00#25 }, by decide, rfl, ?_⟩
  rw [covers_value _ (by decide)]
  decide

theorem wFader (v : Byte) : Statement (.wFader v) := by
  intro _ _ h
  cases h
  refine ⟨{ mnemonic := "W.FADER", match25 := 0x1000F00#25, mask25 := 0x103FF00#25 }, by decide, rfl, ?_⟩
  rw [covers_value _ (by decide)]
  decide

theorem wUnknownC0 (v : Byte) : Statement (.wUnknownC0 v) := by
  intro _ _ h
  cases h
  refine ⟨{ mnemonic := "W.UNKNOWN_C0", match25 := 0x100C000#25, mask25 := 0x103FF00#25 }, by decide, rfl, ?_⟩
  rw [covers_value _ (by decide)]
  decide

theorem wUnknownC1 (v : Byte) : Statement (.wUnknownC1 v) := by
  intro _ _ h
  cases h
  refine ⟨{ mnemonic := "W.UNKNOWN_C1", match25 := 0x100C100#25, mask25 := 0x103FF00#25 }, by decide, rfl, ?_⟩
  rw [covers_value _ (by decide)]
  decide

theorem wUnknownC2 (v : Byte) : Statement (.wUnknownC2 v) := by
  intro _ _ h
  cases h
  refine ⟨{ mnemonic := "W.UNKNOWN_C2", match25 := 0x100C200#25, mask25 := 0x103FF00#25 }, by decide, rfl, ?_⟩
  rw [covers_value _ (by decide)]
  decide

theorem wUnknownC3 (v : Byte) : Statement (.wUnknownC3 v) := by
  intro _ _ h
  cases h
  refine ⟨{ mnemonic := "W.UNKNOWN_C3", match25 := 0x100C300#25, mask25 := 0x103FF00#25 }, by decide, rfl, ?_⟩
  rw [covers_value _ (by decide)]
  decide

theorem wUnknown010_01F (off : Offset) (v : Byte) : Statement (.wUnknown010_01F off v) := by
  intro hw _ h
  cases h
  refine ⟨{ mnemonic := "W.UNKNOWN_010_01F", match25 := 0x1001000#25, mask25 := 0x103F000#25 }, by decide, rfl, ?_⟩
  rw [covers_value _ (by decide)]
  have hall : ∀ o : Offset, Offset.within o 0x010#10 0x01F#10 = true →
      BusRow.covers { mnemonic := "W.UNKNOWN_010_01F", match25 := 0x1001000#25, mask25 := 0x103F000#25 } (busWord true (addressOf o) 0x00#8) = true := by decide +kernel
  exact hall off hw

theorem wUnknown020_03F (off : Offset) (v : Byte) : Statement (.wUnknown020_03F off v) := by
  intro hw _ h
  cases h
  refine ⟨{ mnemonic := "W.UNKNOWN_020_03F", match25 := 0x1002000#25, mask25 := 0x103E000#25 }, by decide, rfl, ?_⟩
  rw [covers_value _ (by decide)]
  have hall : ∀ o : Offset, Offset.within o 0x020#10 0x03F#10 = true →
      BusRow.covers { mnemonic := "W.UNKNOWN_020_03F", match25 := 0x1002000#25, mask25 := 0x103E000#25 } (busWord true (addressOf o) 0x00#8) = true := by decide +kernel
  exact hall off hw

theorem wUnknown040_07F (off : Offset) (v : Byte) : Statement (.wUnknown040_07F off v) := by
  intro hw _ h
  cases h
  refine ⟨{ mnemonic := "W.UNKNOWN_040_07F", match25 := 0x1004000#25, mask25 := 0x103C000#25 }, by decide, rfl, ?_⟩
  rw [covers_value _ (by decide)]
  have hall : ∀ o : Offset, Offset.within o 0x040#10 0x07F#10 = true →
      BusRow.covers { mnemonic := "W.UNKNOWN_040_07F", match25 := 0x1004000#25, mask25 := 0x103C000#25 } (busWord true (addressOf o) 0x00#8) = true := by decide +kernel
  exact hall off hw

theorem wUnknown080_0BF (off : Offset) (v : Byte) : Statement (.wUnknown080_0BF off v) := by
  intro hw _ h
  cases h
  refine ⟨{ mnemonic := "W.UNKNOWN_080_0BF", match25 := 0x1008000#25, mask25 := 0x103C000#25 }, by decide, rfl, ?_⟩
  rw [covers_value _ (by decide)]
  have hall : ∀ o : Offset, Offset.within o 0x080#10 0x0BF#10 = true →
      BusRow.covers { mnemonic := "W.UNKNOWN_080_0BF", match25 := 0x1008000#25, mask25 := 0x103C000#25 } (busWord true (addressOf o) 0x00#8) = true := by decide +kernel
  exact hall off hw

theorem wUnknown0C4_0C7 (off : Offset) (v : Byte) : Statement (.wUnknown0C4_0C7 off v) := by
  intro hw _ h
  cases h
  refine ⟨{ mnemonic := "W.UNKNOWN_0C4_0C7", match25 := 0x100C400#25, mask25 := 0x103FC00#25 }, by decide, rfl, ?_⟩
  rw [covers_value _ (by decide)]
  have hall : ∀ o : Offset, Offset.within o 0x0C4#10 0x0C7#10 = true →
      BusRow.covers { mnemonic := "W.UNKNOWN_0C4_0C7", match25 := 0x100C400#25, mask25 := 0x103FC00#25 } (busWord true (addressOf o) 0x00#8) = true := by decide +kernel
  exact hall off hw

theorem wUnknown0C8_0CF (off : Offset) (v : Byte) : Statement (.wUnknown0C8_0CF off v) := by
  intro hw _ h
  cases h
  refine ⟨{ mnemonic := "W.UNKNOWN_0C8_0CF", match25 := 0x100C800#25, mask25 := 0x103F800#25 }, by decide, rfl, ?_⟩
  rw [covers_value _ (by decide)]
  have hall : ∀ o : Offset, Offset.within o 0x0C8#10 0x0CF#10 = true →
      BusRow.covers { mnemonic := "W.UNKNOWN_0C8_0CF", match25 := 0x100C800#25, mask25 := 0x103F800#25 } (busWord true (addressOf o) 0x00#8) = true := by decide +kernel
  exact hall off hw

theorem wUnknown0D0_0DF (off : Offset) (v : Byte) : Statement (.wUnknown0D0_0DF off v) := by
  intro hw _ h
  cases h
  refine ⟨{ mnemonic := "W.UNKNOWN_0D0_0DF", match25 := 0x100D000#25, mask25 := 0x103F000#25 }, by decide, rfl, ?_⟩
  rw [covers_value _ (by decide)]
  have hall : ∀ o : Offset, Offset.within o 0x0D0#10 0x0DF#10 = true →
      BusRow.covers { mnemonic := "W.UNKNOWN_0D0_0DF", match25 := 0x100D000#25, mask25 := 0x103F000#25 } (busWord true (addressOf o) 0x00#8) = true := by decide +kernel
  exact hall off hw

theorem wUnknown0E0_0FF (off : Offset) (v : Byte) : Statement (.wUnknown0E0_0FF off v) := by
  intro hw _ h
  cases h
  refine ⟨{ mnemonic := "W.UNKNOWN_0E0_0FF", match25 := 0x100E000#25, mask25 := 0x103E000#25 }, by decide, rfl, ?_⟩
  rw [covers_value _ (by decide)]
  have hall : ∀ o : Offset, Offset.within o 0x0E0#10 0x0FF#10 = true →
      BusRow.covers { mnemonic := "W.UNKNOWN_0E0_0FF", match25 := 0x100E000#25, mask25 := 0x103E000#25 } (busWord true (addressOf o) 0x00#8) = true := by decide +kernel
  exact hall off hw

theorem wUnknown100_1FF (off : Offset) (v : Byte) : Statement (.wUnknown100_1FF off v) := by
  intro hw _ h
  cases h
  refine ⟨{ mnemonic := "W.UNKNOWN_100_1FF", match25 := 0x1010000#25, mask25 := 0x1030000#25 }, by decide, rfl, ?_⟩
  rw [covers_value _ (by decide)]
  have hall : ∀ o : Offset, Offset.within o 0x100#10 0x1FF#10 = true →
      BusRow.covers { mnemonic := "W.UNKNOWN_100_1FF", match25 := 0x1010000#25, mask25 := 0x1030000#25 } (busWord true (addressOf o) 0x00#8) = true := by decide +kernel
  exact hall off hw

theorem wUnknown200_3FF (off : Offset) (v : Byte) : Statement (.wUnknown200_3FF off v) := by
  intro hw _ h
  cases h
  refine ⟨{ mnemonic := "W.UNKNOWN_200_3FF", match25 := 0x1020000#25, mask25 := 0x1020000#25 }, by decide, rfl, ?_⟩
  rw [covers_value _ (by decide)]
  have hall : ∀ o : Offset, Offset.within o 0x200#10 0x3FF#10 = true →
      BusRow.covers { mnemonic := "W.UNKNOWN_200_3FF", match25 := 0x1020000#25, mask25 := 0x1020000#25 } (busWord true (addressOf o) 0x00#8) = true := by decide +kernel
  exact hall off hw

theorem rCdcStat : Statement (.rCdcStat) := by
  intro _ _ h
  cases h
  refine ⟨{ mnemonic := "R.CDC_STAT", match25 := 0x0000000#25, mask25 := 0x103FF00#25 }, by decide, rfl, ?_⟩
  rw [covers_value _ (by decide)]
  decide

theorem rCdcData : Statement (.rCdcData) := by
  intro _ _ h
  cases h
  refine ⟨{ mnemonic := "R.CDC_DATA", match25 := 0x0000100#25, mask25 := 0x103FF00#25 }, by decide, rfl, ?_⟩
  rw [covers_value _ (by decide)]
  decide

theorem rIrqEnAck : Statement (.rIrqEnAck) := by
  intro _ _ h
  cases h
  refine ⟨{ mnemonic := "R.IRQ_EN_ACK", match25 := 0x0000200#25, mask25 := 0x103FF00#25 }, by decide, rfl, ?_⟩
  rw [covers_value _ (by decide)]
  decide

theorem rIrqStat : Statement (.rIrqStat) := by
  intro _ _ h
  cases h
  refine ⟨{ mnemonic := "R.IRQ_STAT", match25 := 0x0000300#25, mask25 := 0x103FF00#25 }, by decide, rfl, ?_⟩
  rw [covers_value _ (by decide)]
  decide

theorem rCdcReset : Statement (.rCdcReset) := by
  intro _ _ h
  cases h
  refine ⟨{ mnemonic := "R.CDC_RESET", match25 := 0x0000400#25, mask25 := 0x103FF00#25 }, by decide, rfl, ?_⟩
  rw [covers_value _ (by decide)]
  decide

theorem rSampleLo : Statement (.rSampleLo) := by
  intro _ _ h
  cases h
  refine ⟨{ mnemonic := "R.SAMPLE_LO", match25 := 0x0000500#25, mask25 := 0x103FF00#25 }, by decide, rfl, ?_⟩
  rw [covers_value _ (by decide)]
  decide

theorem rSampleHi : Statement (.rSampleHi) := by
  intro _ _ h
  cases h
  refine ⟨{ mnemonic := "R.SAMPLE_HI", match25 := 0x0000600#25, mask25 := 0x103FF00#25 }, by decide, rfl, ?_⟩
  rw [covers_value _ (by decide)]
  decide

theorem rBramLock : Statement (.rBramLock) := by
  intro _ _ h
  cases h
  refine ⟨{ mnemonic := "R.BRAM_LOCK", match25 := 0x0000700#25, mask25 := 0x103FF00#25 }, by decide, rfl, ?_⟩
  rw [covers_value _ (by decide)]
  decide

theorem rCdcDataAuto : Statement (.rCdcDataAuto) := by
  intro _ _ h
  cases h
  refine ⟨{ mnemonic := "R.CDC_DATA_AUTO", match25 := 0x0000800#25, mask25 := 0x103FF00#25 }, by decide, rfl, ?_⟩
  rw [covers_value _ (by decide)]
  decide

theorem rAdpcm09 : Statement (.rAdpcm09) := by
  intro _ _ h
  cases h
  refine ⟨{ mnemonic := "R.ADPCM_09", match25 := 0x0000900#25, mask25 := 0x103FF00#25 }, by decide, rfl, ?_⟩
  rw [covers_value _ (by decide)]
  decide

theorem rAdpcm0A : Statement (.rAdpcm0A) := by
  intro _ _ h
  cases h
  refine ⟨{ mnemonic := "R.ADPCM_0A", match25 := 0x0000A00#25, mask25 := 0x103FF00#25 }, by decide, rfl, ?_⟩
  rw [covers_value _ (by decide)]
  decide

theorem rAdpcm0B : Statement (.rAdpcm0B) := by
  intro _ _ h
  cases h
  refine ⟨{ mnemonic := "R.ADPCM_0B", match25 := 0x0000B00#25, mask25 := 0x103FF00#25 }, by decide, rfl, ?_⟩
  rw [covers_value _ (by decide)]
  decide

theorem rAdpcm0C : Statement (.rAdpcm0C) := by
  intro _ _ h
  cases h
  refine ⟨{ mnemonic := "R.ADPCM_0C", match25 := 0x0000C00#25, mask25 := 0x103FF00#25 }, by decide, rfl, ?_⟩
  rw [covers_value _ (by decide)]
  decide

theorem rAdpcm0D : Statement (.rAdpcm0D) := by
  intro _ _ h
  cases h
  refine ⟨{ mnemonic := "R.ADPCM_0D", match25 := 0x0000D00#25, mask25 := 0x103FF00#25 }, by decide, rfl, ?_⟩
  rw [covers_value _ (by decide)]
  decide

theorem rAdpcm0E : Statement (.rAdpcm0E) := by
  intro _ _ h
  cases h
  refine ⟨{ mnemonic := "R.ADPCM_0E", match25 := 0x0000E00#25, mask25 := 0x103FF00#25 }, by decide, rfl, ?_⟩
  rw [covers_value _ (by decide)]
  decide

theorem rUnknown0F : Statement (.rUnknown0F) := by
  intro _ _ h
  cases h
  refine ⟨{ mnemonic := "R.UNKNOWN_0F", match25 := 0x0000F00#25, mask25 := 0x103FF00#25 }, by decide, rfl, ?_⟩
  rw [covers_value _ (by decide)]
  decide

theorem rId0 : Statement (.rId0) := by
  intro _ _ h
  cases h
  refine ⟨{ mnemonic := "R.ID0", match25 := 0x000C000#25, mask25 := 0x103FF00#25 }, by decide, rfl, ?_⟩
  rw [covers_value _ (by decide)]
  decide

theorem rId1 : Statement (.rId1) := by
  intro _ _ h
  cases h
  refine ⟨{ mnemonic := "R.ID1", match25 := 0x000C100#25, mask25 := 0x103FF00#25 }, by decide, rfl, ?_⟩
  rw [covers_value _ (by decide)]
  decide

theorem rId2 : Statement (.rId2) := by
  intro _ _ h
  cases h
  refine ⟨{ mnemonic := "R.ID2", match25 := 0x000C200#25, mask25 := 0x103FF00#25 }, by decide, rfl, ?_⟩
  rw [covers_value _ (by decide)]
  decide

theorem rId3 : Statement (.rId3) := by
  intro _ _ h
  cases h
  refine ⟨{ mnemonic := "R.ID3", match25 := 0x000C300#25, mask25 := 0x103FF00#25 }, by decide, rfl, ?_⟩
  rw [covers_value _ (by decide)]
  decide

theorem rUnknown010_01F (off : Offset) : Statement (.rUnknown010_01F off) := by
  intro hw _ h
  cases h
  refine ⟨{ mnemonic := "R.UNKNOWN_010_01F", match25 := 0x0001000#25, mask25 := 0x103F000#25 }, by decide, rfl, ?_⟩
  rw [covers_value _ (by decide)]
  have hall : ∀ o : Offset, Offset.within o 0x010#10 0x01F#10 = true →
      BusRow.covers { mnemonic := "R.UNKNOWN_010_01F", match25 := 0x0001000#25, mask25 := 0x103F000#25 } (busWord false (addressOf o) 0x00#8) = true := by decide +kernel
  exact hall off hw

theorem rUnknown020_03F (off : Offset) : Statement (.rUnknown020_03F off) := by
  intro hw _ h
  cases h
  refine ⟨{ mnemonic := "R.UNKNOWN_020_03F", match25 := 0x0002000#25, mask25 := 0x103E000#25 }, by decide, rfl, ?_⟩
  rw [covers_value _ (by decide)]
  have hall : ∀ o : Offset, Offset.within o 0x020#10 0x03F#10 = true →
      BusRow.covers { mnemonic := "R.UNKNOWN_020_03F", match25 := 0x0002000#25, mask25 := 0x103E000#25 } (busWord false (addressOf o) 0x00#8) = true := by decide +kernel
  exact hall off hw

theorem rUnknown040_07F (off : Offset) : Statement (.rUnknown040_07F off) := by
  intro hw _ h
  cases h
  refine ⟨{ mnemonic := "R.UNKNOWN_040_07F", match25 := 0x0004000#25, mask25 := 0x103C000#25 }, by decide, rfl, ?_⟩
  rw [covers_value _ (by decide)]
  have hall : ∀ o : Offset, Offset.within o 0x040#10 0x07F#10 = true →
      BusRow.covers { mnemonic := "R.UNKNOWN_040_07F", match25 := 0x0004000#25, mask25 := 0x103C000#25 } (busWord false (addressOf o) 0x00#8) = true := by decide +kernel
  exact hall off hw

theorem rUnknown080_0BF (off : Offset) : Statement (.rUnknown080_0BF off) := by
  intro hw _ h
  cases h
  refine ⟨{ mnemonic := "R.UNKNOWN_080_0BF", match25 := 0x0008000#25, mask25 := 0x103C000#25 }, by decide, rfl, ?_⟩
  rw [covers_value _ (by decide)]
  have hall : ∀ o : Offset, Offset.within o 0x080#10 0x0BF#10 = true →
      BusRow.covers { mnemonic := "R.UNKNOWN_080_0BF", match25 := 0x0008000#25, mask25 := 0x103C000#25 } (busWord false (addressOf o) 0x00#8) = true := by decide +kernel
  exact hall off hw

theorem rUnknown0C4_0C7 (off : Offset) : Statement (.rUnknown0C4_0C7 off) := by
  intro hw _ h
  cases h
  refine ⟨{ mnemonic := "R.UNKNOWN_0C4_0C7", match25 := 0x000C400#25, mask25 := 0x103FC00#25 }, by decide, rfl, ?_⟩
  rw [covers_value _ (by decide)]
  have hall : ∀ o : Offset, Offset.within o 0x0C4#10 0x0C7#10 = true →
      BusRow.covers { mnemonic := "R.UNKNOWN_0C4_0C7", match25 := 0x000C400#25, mask25 := 0x103FC00#25 } (busWord false (addressOf o) 0x00#8) = true := by decide +kernel
  exact hall off hw

theorem rUnknown0C8_0CF (off : Offset) : Statement (.rUnknown0C8_0CF off) := by
  intro hw _ h
  cases h
  refine ⟨{ mnemonic := "R.UNKNOWN_0C8_0CF", match25 := 0x000C800#25, mask25 := 0x103F800#25 }, by decide, rfl, ?_⟩
  rw [covers_value _ (by decide)]
  have hall : ∀ o : Offset, Offset.within o 0x0C8#10 0x0CF#10 = true →
      BusRow.covers { mnemonic := "R.UNKNOWN_0C8_0CF", match25 := 0x000C800#25, mask25 := 0x103F800#25 } (busWord false (addressOf o) 0x00#8) = true := by decide +kernel
  exact hall off hw

theorem rUnknown0D0_0DF (off : Offset) : Statement (.rUnknown0D0_0DF off) := by
  intro hw _ h
  cases h
  refine ⟨{ mnemonic := "R.UNKNOWN_0D0_0DF", match25 := 0x000D000#25, mask25 := 0x103F000#25 }, by decide, rfl, ?_⟩
  rw [covers_value _ (by decide)]
  have hall : ∀ o : Offset, Offset.within o 0x0D0#10 0x0DF#10 = true →
      BusRow.covers { mnemonic := "R.UNKNOWN_0D0_0DF", match25 := 0x000D000#25, mask25 := 0x103F000#25 } (busWord false (addressOf o) 0x00#8) = true := by decide +kernel
  exact hall off hw

theorem rUnknown0E0_0FF (off : Offset) : Statement (.rUnknown0E0_0FF off) := by
  intro hw _ h
  cases h
  refine ⟨{ mnemonic := "R.UNKNOWN_0E0_0FF", match25 := 0x000E000#25, mask25 := 0x103E000#25 }, by decide, rfl, ?_⟩
  rw [covers_value _ (by decide)]
  have hall : ∀ o : Offset, Offset.within o 0x0E0#10 0x0FF#10 = true →
      BusRow.covers { mnemonic := "R.UNKNOWN_0E0_0FF", match25 := 0x000E000#25, mask25 := 0x103E000#25 } (busWord false (addressOf o) 0x00#8) = true := by decide +kernel
  exact hall off hw

theorem rUnknown100_1FF (off : Offset) : Statement (.rUnknown100_1FF off) := by
  intro hw _ h
  cases h
  refine ⟨{ mnemonic := "R.UNKNOWN_100_1FF", match25 := 0x0010000#25, mask25 := 0x1030000#25 }, by decide, rfl, ?_⟩
  rw [covers_value _ (by decide)]
  have hall : ∀ o : Offset, Offset.within o 0x100#10 0x1FF#10 = true →
      BusRow.covers { mnemonic := "R.UNKNOWN_100_1FF", match25 := 0x0010000#25, mask25 := 0x1030000#25 } (busWord false (addressOf o) 0x00#8) = true := by decide +kernel
  exact hall off hw

theorem rUnknown200_3FF (off : Offset) : Statement (.rUnknown200_3FF off) := by
  intro hw _ h
  cases h
  refine ⟨{ mnemonic := "R.UNKNOWN_200_3FF", match25 := 0x0020000#25, mask25 := 0x1020000#25 }, by decide, rfl, ?_⟩
  rw [covers_value _ (by decide)]
  have hall : ∀ o : Offset, Offset.within o 0x200#10 0x3FF#10 = true →
      BusRow.covers { mnemonic := "R.UNKNOWN_200_3FF", match25 := 0x0020000#25, mask25 := 0x1020000#25 } (busWord false (addressOf o) 0x00#8) = true := by decide +kernel
  exact hall off hw

theorem irqset (b : SourceIndex) : Statement (.irqset b) := by
  intro _ _ h
  cases h

theorem irqclr (b : SourceIndex) : Statement (.irqclr b) := by
  intro _ _ h
  cases h

theorem reset : Statement (.reset) := by
  intro _ _ h
  cases h

theorem snapshot : Statement (.snapshot) := by
  intro _ _ h
  cases h

theorem restore (t : Snapshot) : Statement (.restore t) := by
  intro _ _ h
  cases h

end EncodeMatchesRow

end Sys2Proof.Laws
end

