-- ==== Sys2Proof/Tests/Slice0.lean ====
section
/-!
SUPPORT. Sys2Proof/Tests/Slice0.lean: the model's own tests: the decoding of one written-out word per operation, the checks of
WellFormed, vectors of spec/95_test_vectors.md and 96_derived_vectors.md under the spec's `LatchStub`, and for each statement
with hypotheses a witness that meets them.
-/
namespace Sys2Proof.Tests

open Sys2Proof Sys2Proof.Machine

/-! ### Decoding: words written from the `encoding` strings of spec/opcode_table.json, ignored address bits set in some -/

theorem test_decode_wSelpulse : decode (.bus 0b1000000000000000010100101#25) = .ok (.wSelpulse 0xA5#8) := by decide
theorem test_decode_wCdcData : decode (.bus 0b1000110000000000110100101#25) = .ok (.wCdcData 0xA5#8) := by decide
theorem test_decode_wIrqEnAck : decode (.bus 0b1111111000000001010100101#25) = .ok (.wIrqEnAck 0xA5#8) := by decide
theorem test_decode_wIrqStat : decode (.bus 0b1000001000000001110100101#25) = .ok (.wIrqStat 0xA5#8) := by decide
theorem test_decode_wCdcReset : decode (.bus 0b1000000000000010010100101#25) = .ok (.wCdcReset 0xA5#8) := by decide
theorem test_decode_wSampleLo : decode (.bus 0b1000110000000010110100101#25) = .ok (.wSampleLo 0xA5#8) := by decide
theorem test_decode_wSampleHi : decode (.bus 0b1111111000000011010100101#25) = .ok (.wSampleHi 0xA5#8) := by decide
theorem test_decode_wBramLock : decode (.bus 0b1000001000000011110100101#25) = .ok (.wBramLock 0xA5#8) := by decide
theorem test_decode_wAdpcm08 : decode (.bus 0b1000000000000100010100101#25) = .ok (.wAdpcm08 0xA5#8) := by decide
theorem test_decode_wAdpcm09 : decode (.bus 0b1000110000000100110100101#25) = .ok (.wAdpcm09 0xA5#8) := by decide
theorem test_decode_wAdpcm0A : decode (.bus 0b1111111000000101010100101#25) = .ok (.wAdpcm0A 0xA5#8) := by decide
theorem test_decode_wAdpcm0B : decode (.bus 0b1000001000000101110100101#25) = .ok (.wAdpcm0B 0xA5#8) := by decide
theorem test_decode_wAdpcm0C : decode (.bus 0b1000000000000110010100101#25) = .ok (.wAdpcm0C 0xA5#8) := by decide
theorem test_decode_wAdpcm0D : decode (.bus 0b1000110000000110110100101#25) = .ok (.wAdpcm0D 0xA5#8) := by decide
theorem test_decode_wAdpcm0E : decode (.bus 0b1111111000000111010100101#25) = .ok (.wAdpcm0E 0xA5#8) := by decide
theorem test_decode_wFader : decode (.bus 0b1000001000000111110100101#25) = .ok (.wFader 0xA5#8) := by decide
theorem test_decode_wUnknownC0 : decode (.bus 0b1000000001100000010100101#25) = .ok (.wUnknownC0 0xA5#8) := by decide
theorem test_decode_wUnknownC1 : decode (.bus 0b1000110001100000110100101#25) = .ok (.wUnknownC1 0xA5#8) := by decide
theorem test_decode_wUnknownC2 : decode (.bus 0b1111111001100001010100101#25) = .ok (.wUnknownC2 0xA5#8) := by decide
theorem test_decode_wUnknownC3 : decode (.bus 0b1000001001100001110100101#25) = .ok (.wUnknownC3 0xA5#8) := by decide
theorem test_decode_wUnknown010_01F : decode (.bus 0b1000000000001000010100101#25) = .ok (.wUnknown010_01F 0x010#10 0xA5#8) := by decide
theorem test_decode_wUnknown020_03F : decode (.bus 0b1000110000011111110100101#25) = .ok (.wUnknown020_03F 0x03F#10 0xA5#8) := by decide
theorem test_decode_wUnknown040_07F : decode (.bus 0b1111111000100000010100101#25) = .ok (.wUnknown040_07F 0x040#10 0xA5#8) := by decide
theorem test_decode_wUnknown080_0BF : decode (.bus 0b1000001001011111110100101#25) = .ok (.wUnknown080_0BF 0x0BF#10 0xA5#8) := by decide
theorem test_decode_wUnknown0C4_0C7 : decode (.bus 0b1000000001100010010100101#25) = .ok (.wUnknown0C4_0C7 0x0C4#10 0xA5#8) := by decide
theorem test_decode_wUnknown0C8_0CF : decode (.bus 0b1000110001100111110100101#25) = .ok (.wUnknown0C8_0CF 0x0CF#10 0xA5#8) := by decide
theorem test_decode_wUnknown0D0_0DF : decode (.bus 0b1111111001101000010100101#25) = .ok (.wUnknown0D0_0DF 0x0D0#10 0xA5#8) := by decide
theorem test_decode_wUnknown0E0_0FF : decode (.bus 0b1000001001111111110100101#25) = .ok (.wUnknown0E0_0FF 0x0FF#10 0xA5#8) := by decide
theorem test_decode_wUnknown100_1FF : decode (.bus 0b1000000010000000010100101#25) = .ok (.wUnknown100_1FF 0x100#10 0xA5#8) := by decide
theorem test_decode_wUnknown200_3FF : decode (.bus 0b1000110111111111110100101#25) = .ok (.wUnknown200_3FF 0x3FF#10 0xA5#8) := by decide
theorem test_decode_rCdcStat : decode (.bus 0b0111111000000000001100110#25) = .ok .rCdcStat := by decide
theorem test_decode_rCdcData : decode (.bus 0b0000001000000000100000000#25) = .ok .rCdcData := by decide
theorem test_decode_rIrqEnAck : decode (.bus 0b0000000000000001001100110#25) = .ok .rIrqEnAck := by decide
theorem test_decode_rIrqStat : decode (.bus 0b0000110000000001100000000#25) = .ok .rIrqStat := by decide
theorem test_decode_rCdcReset : decode (.bus 0b0111111000000010001100110#25) = .ok .rCdcReset := by decide
theorem test_decode_rSampleLo : decode (.bus 0b0000001000000010100000000#25) = .ok .rSampleLo := by decide
theorem test_decode_rSampleHi : decode (.bus 0b0000000000000011001100110#25) = .ok .rSampleHi := by decide
theorem test_decode_rBramLock : decode (.bus 0b0000110000000011100000000#25) = .ok .rBramLock := by decide
theorem test_decode_rCdcDataAuto : decode (.bus 0b0111111000000100001100110#25) = .ok .rCdcDataAuto := by decide
theorem test_decode_rAdpcm09 : decode (.bus 0b0000001000000100100000000#25) = .ok .rAdpcm09 := by decide
theorem test_decode_rAdpcm0A : decode (.bus 0b0000000000000101001100110#25) = .ok .rAdpcm0A := by decide
theorem test_decode_rAdpcm0B : decode (.bus 0b0000110000000101100000000#25) = .ok .rAdpcm0B := by decide
theorem test_decode_rAdpcm0C : decode (.bus 0b0111111000000110001100110#25) = .ok .rAdpcm0C := by decide
theorem test_decode_rAdpcm0D : decode (.bus 0b0000001000000110100000000#25) = .ok .rAdpcm0D := by decide
theorem test_decode_rAdpcm0E : decode (.bus 0b0000000000000111001100110#25) = .ok .rAdpcm0E := by decide
theorem test_decode_rUnknown0F : decode (.bus 0b0000110000000111100000000#25) = .ok .rUnknown0F := by decide
theorem test_decode_rId0 : decode (.bus 0b0111111001100000001100110#25) = .ok .rId0 := by decide
theorem test_decode_rId1 : decode (.bus 0b0000001001100000100000000#25) = .ok .rId1 := by decide
theorem test_decode_rId2 : decode (.bus 0b0000000001100001001100110#25) = .ok .rId2 := by decide
theorem test_decode_rId3 : decode (.bus 0b0000110001100001100000000#25) = .ok .rId3 := by decide
theorem test_decode_rUnknown010_01F : decode (.bus 0b0111111000001000001100110#25) = .ok (.rUnknown010_01F 0x010#10) := by decide
theorem test_decode_rUnknown020_03F : decode (.bus 0b0000001000011111100000000#25) = .ok (.rUnknown020_03F 0x03F#10) := by decide
theorem test_decode_rUnknown040_07F : decode (.bus 0b0000000000100000001100110#25) = .ok (.rUnknown040_07F 0x040#10) := by decide
theorem test_decode_rUnknown080_0BF : decode (.bus 0b0000110001011111100000000#25) = .ok (.rUnknown080_0BF 0x0BF#10) := by decide
theorem test_decode_rUnknown0C4_0C7 : decode (.bus 0b0111111001100010001100110#25) = .ok (.rUnknown0C4_0C7 0x0C4#10) := by decide
theorem test_decode_rUnknown0C8_0CF : decode (.bus 0b0000001001100111100000000#25) = .ok (.rUnknown0C8_0CF 0x0CF#10) := by decide
theorem test_decode_rUnknown0D0_0DF : decode (.bus 0b0000000001101000001100110#25) = .ok (.rUnknown0D0_0DF 0x0D0#10) := by decide
theorem test_decode_rUnknown0E0_0FF : decode (.bus 0b0000110001111111100000000#25) = .ok (.rUnknown0E0_0FF 0x0FF#10) := by decide
theorem test_decode_rUnknown100_1FF : decode (.bus 0b0111111010000000001100110#25) = .ok (.rUnknown100_1FF 0x100#10) := by decide
theorem test_decode_rUnknown200_3FF : decode (.bus 0b0000001111111111100000000#25) = .ok (.rUnknown200_3FF 0x3FF#10) := by decide
theorem test_decode_irqset : decode (.src 0b1101#4) = .ok (.irqset 5#3) := by decide
theorem test_decode_irqclr : decode (.src 0b0101#4) = .ok (.irqclr 5#3) := by decide
theorem test_decode_reset : decode (.host 0b00#2 ⟨0x24#8, 0x0C#8, false, true⟩) = .ok .reset := by decide
theorem test_decode_snapshot : decode (.host 0b01#2 ⟨0x24#8, 0x0C#8, false, true⟩) = .ok .snapshot := by decide
theorem test_decode_restore : decode (.host 0b10#2 ⟨0x24#8, 0x0C#8, false, true⟩) = .ok (.restore ⟨0x24#8, 0x0C#8, false, true⟩) := by decide
theorem test_decode_host_eleven : decode (.host 0b11#2 ⟨0x00#8, 0x00#8, true, false⟩) = .error .hostWordUndefined := by decide
theorem test_decode_wide_read : decode (.memRead 0x0003#16 2) = .error (.accessWidth 2) := by decide
theorem test_decode_byte_write : decode (.memWrite 0x1807#16 1 0x80) = .ok (.wBramLock 0x80#8) := by decide

/-! ### WellFormed refuses an offset one past either end of each range -/

theorem test_illFormed_wUnknown010_01F :
    (Instr.wUnknown010_01F 0x00F#10 0x00#8).wellFormed = false ∧ (Instr.wUnknown010_01F 0x020#10 0x00#8).wellFormed = false := by decide
theorem test_illFormed_wUnknown020_03F :
    (Instr.wUnknown020_03F 0x01F#10 0x00#8).wellFormed = false ∧ (Instr.wUnknown020_03F 0x040#10 0x00#8).wellFormed = false := by decide
theorem test_illFormed_wUnknown040_07F :
    (Instr.wUnknown040_07F 0x03F#10 0x00#8).wellFormed = false ∧ (Instr.wUnknown040_07F 0x080#10 0x00#8).wellFormed = false := by decide
theorem test_illFormed_wUnknown080_0BF :
    (Instr.wUnknown080_0BF 0x07F#10 0x00#8).wellFormed = false ∧ (Instr.wUnknown080_0BF 0x0C0#10 0x00#8).wellFormed = false := by decide
theorem test_illFormed_wUnknown0C4_0C7 :
    (Instr.wUnknown0C4_0C7 0x0C3#10 0x00#8).wellFormed = false ∧ (Instr.wUnknown0C4_0C7 0x0C8#10 0x00#8).wellFormed = false := by decide
theorem test_illFormed_wUnknown0C8_0CF :
    (Instr.wUnknown0C8_0CF 0x0C7#10 0x00#8).wellFormed = false ∧ (Instr.wUnknown0C8_0CF 0x0D0#10 0x00#8).wellFormed = false := by decide
theorem test_illFormed_wUnknown0D0_0DF :
    (Instr.wUnknown0D0_0DF 0x0CF#10 0x00#8).wellFormed = false ∧ (Instr.wUnknown0D0_0DF 0x0E0#10 0x00#8).wellFormed = false := by decide
theorem test_illFormed_wUnknown0E0_0FF :
    (Instr.wUnknown0E0_0FF 0x0DF#10 0x00#8).wellFormed = false ∧ (Instr.wUnknown0E0_0FF 0x100#10 0x00#8).wellFormed = false := by decide
theorem test_illFormed_wUnknown100_1FF :
    (Instr.wUnknown100_1FF 0x0FF#10 0x00#8).wellFormed = false ∧ (Instr.wUnknown100_1FF 0x200#10 0x00#8).wellFormed = false := by decide
theorem test_illFormed_wUnknown200_3FF :
    (Instr.wUnknown200_3FF 0x1FF#10 0x00#8).wellFormed = false ∧ (Instr.wUnknown200_3FF 0x000#10 0x00#8).wellFormed = false := by decide
theorem test_illFormed_rUnknown010_01F :
    (Instr.rUnknown010_01F 0x00F#10).wellFormed = false ∧ (Instr.rUnknown010_01F 0x020#10).wellFormed = false := by decide
theorem test_illFormed_rUnknown020_03F :
    (Instr.rUnknown020_03F 0x01F#10).wellFormed = false ∧ (Instr.rUnknown020_03F 0x040#10).wellFormed = false := by decide
theorem test_illFormed_rUnknown040_07F :
    (Instr.rUnknown040_07F 0x03F#10).wellFormed = false ∧ (Instr.rUnknown040_07F 0x080#10).wellFormed = false := by decide
theorem test_illFormed_rUnknown080_0BF :
    (Instr.rUnknown080_0BF 0x07F#10).wellFormed = false ∧ (Instr.rUnknown080_0BF 0x0C0#10).wellFormed = false := by decide
theorem test_illFormed_rUnknown0C4_0C7 :
    (Instr.rUnknown0C4_0C7 0x0C3#10).wellFormed = false ∧ (Instr.rUnknown0C4_0C7 0x0C8#10).wellFormed = false := by decide
theorem test_illFormed_rUnknown0C8_0CF :
    (Instr.rUnknown0C8_0CF 0x0C7#10).wellFormed = false ∧ (Instr.rUnknown0C8_0CF 0x0D0#10).wellFormed = false := by decide
theorem test_illFormed_rUnknown0D0_0DF :
    (Instr.rUnknown0D0_0DF 0x0CF#10).wellFormed = false ∧ (Instr.rUnknown0D0_0DF 0x0E0#10).wellFormed = false := by decide
theorem test_illFormed_rUnknown0E0_0FF :
    (Instr.rUnknown0E0_0FF 0x0DF#10).wellFormed = false ∧ (Instr.rUnknown0E0_0FF 0x100#10).wellFormed = false := by decide
theorem test_illFormed_rUnknown100_1FF :
    (Instr.rUnknown100_1FF 0x0FF#10).wellFormed = false ∧ (Instr.rUnknown100_1FF 0x200#10).wellFormed = false := by decide
theorem test_illFormed_rUnknown200_3FF :
    (Instr.rUnknown200_3FF 0x1FF#10).wellFormed = false ∧ (Instr.rUnknown200_3FF 0x000#10).wellFormed = false := by decide

/-! ### The opcode table's numbering -/

theorem test_tableWord_bus : decodeTableWord 32 0x1000700 = some (.wBramLock 0x00#8) := by decide
theorem test_tableWord_irqset : decodeTableWord 8 0x8 = some (.irqset 0#3) := by decide
theorem test_tableWord_restore : decodeTableWord 8 0x2 = some (.restore emptyPayload) := by decide
theorem test_tableWord_runs_after_reset :
    step (State.reset.withFetchWord 32 0x0000800) = exec .rCdcDataAuto (State.reset.begin []) := rfl
theorem test_mnemonics_distinct : (busRows.map fun r => r.mnemonic).Nodup := by decide

/-! ### The spec's test environment (95_test_vectors.md section 0): latches that hold what is set, no callback unless armed -/

/-- All latches zero. -/
def latches : Collaborators where
  adapter :=
    { sel := false, ack := false, rst := false, req := false, io := false, cd := false, dataPort := 0x00#8,
      statusByte := 0x00#8, phase := 0 }
  cdAudio := { left := 0x0000#16, right := 0x0000#16 }
  adpcm := 0
  fader := 0

/-- `LatchStub`: calls change no latch of their own accord; an ADPCM read answers the latch; the call `armed` calls back. -/
def stub (armed : CollabCall) (cbs : List Callback) : Environment := fun k c =>
  { collab := k, callbacks := if c = armed then cbs else [], data := BitVec.ofNat 8 k.adpcm }

/-- No callback armed. -/
def quiet : Environment := stub .update []

/-- The state of a vector's tuple; IRQ_LINE is 9, SOURCES all eight, the unit enhanced. -/
def st (a e : Byte) (l r : Bool) : State where
  activeIrqs := a
  enabledIrqs := e
  bramLocked := l
  readRightChannel := r
  collab := latches
  irqSink := false
  params := { unitType := .enhanced, irqLine := 9, sources := 0xFF#8, warmResetResetsBlock := false }
  result := .nothing
  trace := []
  inbox := []

/-- The state with the Adapter of a vector's `ENV` line. -/
def env (s : State) (req io cd ack rst : Bool) (data status : Byte) : State :=
  s.withCollab
    { latches with
      adapter :=
        { sel := false, ack := ack, rst := rst, req := req, io := io, cd := cd, dataPort := data, statusByte := status,
          phase := 0 } }

/-- The state with the samples of a vector's `ENV` line. -/
def samples (s : State) (left right : Sample) : State :=
  s.withCollab { latches with cdAudio := { left := left, right := right } }

/-- The tuple, the returned value and the call trace of a next state: what 15_interfaces.md R47 compares. -/
def seen (s : State) : Snapshot × Result × List Call := (s.capture, s.result, s.trace)

/-- The same of an answer. -/
def seenOf : Answer → Option (Snapshot × Result × List Call)
  | .next s => some (seen s)
  | .fault _ => none
  | .refused _ => none

/-! ### Vectors, 96_derived_vectors.md -/

/-- V-wr00-2 -/
theorem test_select_pulse :
    seen ((st 0x24#8 0x7C#8 false true).pulseSelect quiet) =
      (⟨0x24#8, 0x7C#8, false, true⟩, .nothing,
        [.collab (.setSignal .sel true), .collab .update, .collab (.setSignal .sel false), .collab .update]) := by decide
/-- V-wr01-1 -/
theorem test_write_data_port :
    seen ((st 0x00#8 0x00#8 true false).callThenUpdate quiet (.setDataPort 0x3C#8)) =
      (⟨0x00#8, 0x00#8, true, false⟩, .nothing, [.collab (.setDataPort 0x3C#8), .collab .update]) := by decide
/-- V-wr02-3 -/
theorem test_write_enables_asserts_pending :
    seen ((st 0x20#8 0x00#8 true false).writeEnables quiet 0xA0#8) =
      (⟨0x20#8, 0x20#8, true, false⟩, .nothing,
        [.collab (.setSignal .ack true), .collab .update, .irqAssert 9]) := by decide
/-- V-wr02-6 -/
theorem test_write_enables_masks_value :
    seen ((st 0x83#8 0x00#8 true false).writeEnables quiet 0x7F#8) =
      (⟨0x83#8, 0x7C#8, true, false⟩, .nothing,
        [.collab (.setSignal .ack false), .collab .update, .irqDeassert 9]) := by decide
/-- V-wr04-1 -/
theorem test_write_reset_drops_enables :
    seen ((st 0x20#8 0x7C#8 true false).writeReset quiet 0x02#8) =
      (⟨0x20#8, 0x0C#8, true, false⟩, .nothing,
        [.collab (.setSignal .rst true), .collab .update, .irqDeassert 9]) := by decide
/-- V-wr04-4 -/
theorem test_write_reset_release :
    seen ((st 0x20#8 0x7C#8 true false).writeReset quiet 0xFD#8) =
      (⟨0x20#8, 0x7C#8, true, false⟩, .nothing, [.collab (.setSignal .rst false), .collab .update]) := by decide
/-- V-rd00-1 -/
theorem test_read_status_byte :
    seenOf (exec .rCdcStat (env (st 0x00#8 0x00#8 true false) false false false false false 0x00#8 0xC8#8)) =
      some (⟨0x00#8, 0x00#8, true, false⟩, .byte 0xC8#8, []) := by decide
/-- V-rd01-2 -/
theorem test_read_data_port_in_data_phase :
    seenOf (exec .rCdcData (env (st 0x00#8 0x00#8 true false) true true false false false 0x5A#8 0x00#8)) =
      some (⟨0x00#8, 0x00#8, true, false⟩, .byte 0x5A#8, []) := by decide
/-- V-rd02-1 -/
theorem test_read_enables_with_ack :
    seenOf (exec .rIrqEnAck (env (st 0x00#8 0x7C#8 true false) false false false true false 0x00#8 0x00#8)) =
      some (⟨0x00#8, 0x7C#8, true, false⟩, .byte 0xFC#8, []) := by decide
/-- V-wr03-1 -/
theorem test_write_status_nothing :
    seenOf (exec (.wIrqStat 0xFF#8) (st 0x24#8 0x0C#8 false true)) =
      some (⟨0x24#8, 0x0C#8, false, true⟩, .nothing, []) := by decide
/-- V-rd03-4 -/
theorem test_read_status_toggle_to_left :
    seenOf (exec .rIrqStat (st 0x24#8 0x24#8 false true)) =
      some (⟨0x24#8, 0x24#8, true, false⟩, .byte 0x26#8, []) := by decide
/-- V-rd03-5, conflict C1 -/
theorem test_read_status_source_one_pending :
    seenOf (exec .rIrqStat (st 0x02#8 0x00#8 true false)) =
      some (⟨0x02#8, 0x00#8, true, true⟩, .byte 0x02#8, []) := by decide
/-- V-rd04-1 -/
theorem test_read_reset_line :
    seenOf (exec .rCdcReset (env (st 0x00#8 0x00#8 true false) false false false false true 0x00#8 0x00#8)) =
      some (⟨0x00#8, 0x00#8, true, false⟩, .byte 0x02#8, []) := by decide
/-- V-wr05-1 and V-wr06-1 -/
theorem test_sample_writes_nothing :
    seenOf (exec (.wSampleLo 0x77#8) (st 0x00#8 0x00#8 true false)) =
        some (⟨0x00#8, 0x00#8, true, false⟩, .nothing, []) ∧
      seenOf (exec (.wSampleHi 0x00#8) (st 0x00#8 0x00#8 true false)) =
        some (⟨0x00#8, 0x00#8, true, false⟩, .nothing, []) := by decide
/-- V-rd05-1, V-rd06-1 -/
theorem test_sample_left :
    seenOf (exec .rSampleLo (samples (st 0x00#8 0x00#8 true false) 0x1234#16 0xFFFE#16)) =
        some (⟨0x00#8, 0x00#8, true, false⟩, .byte 0x34#8, []) ∧
      seenOf (exec .rSampleHi (samples (st 0x00#8 0x00#8 true false) 0x1234#16 0xFFFE#16)) =
        some (⟨0x00#8, 0x00#8, true, false⟩, .byte 0x12#8, []) := by decide
/-- V-rd05-2, V-rd06-2 -/
theorem test_sample_right :
    seenOf (exec .rSampleLo (samples (st 0x00#8 0x00#8 true true) 0x1234#16 0xFFFE#16)) =
        some (⟨0x00#8, 0x00#8, true, true⟩, .byte 0xFE#8, []) ∧
      seenOf (exec .rSampleHi (samples (st 0x00#8 0x00#8 true true) 0x1234#16 0xFFFE#16)) =
        some (⟨0x00#8, 0x00#8, true, true⟩, .byte 0xFF#8, []) := by decide
/-- V-wr07-5 -/
theorem test_unlock :
    seenOf (exec (.wBramLock 0x81#8) (st 0x00#8 0x00#8 true true)) =
      some (⟨0x00#8, 0x00#8, false, true⟩, .nothing, []) := by decide
/-- V-wr07-3 -/
theorem test_no_lock_by_write :
    seenOf (exec (.wBramLock 0x00#8) (st 0x00#8 0x00#8 false false)) =
      some (⟨0x00#8, 0x00#8, false, false⟩, .nothing, []) := by decide
/-- V-rd07-2 -/
theorem test_read_unlocked :
    seenOf (exec .rBramLock (st 0x00#8 0x00#8 false false)) =
      some (⟨0x00#8, 0x00#8, false, false⟩, .byte 0x80#8, []) := by decide
/-- V-rd08-3 -/
theorem test_streaming_read_acknowledges :
    seen ((env (st 0x00#8 0x00#8 true false) true true false true false 0x00#8 0x00#8).readDataAuto quiet) =
      (⟨0x00#8, 0x00#8, true, false⟩, .byte 0x00#8, [.collab .setAckWithAutoClear, .collab .update]) := by decide
/-- V-rd08-2 -/
theorem test_streaming_read_status_phase :
    seen ((env (st 0x00#8 0x00#8 true false) true true true false false 0x5A#8 0x00#8).readDataAuto quiet) =
      (⟨0x00#8, 0x00#8, true, false⟩, .byte 0x5A#8, []) := by decide
/-- V-rd09-1 -/
theorem test_adpcm_read :
    seen (((st 0x00#8 0x00#8 true false).withCollab { latches with adpcm := 0x3F }).readAdpcm quiet 0x009#10) =
      (⟨0x00#8, 0x00#8, true, false⟩, .byte 0x3F#8, [.collab (.adpcmRead 0x009#10)]) := by decide
/-- V-rd0F-1 -/
theorem test_fader_is_write_only :
    seenOf (exec .rUnknown0F (st 0x00#8 0x00#8 true false)) =
      some (⟨0x00#8, 0x00#8, true, false⟩, .byte 0xFF#8, [.logUnknownRead 0x00F#10]) := by decide
/-- E6, enhanced unit -/
theorem test_identification_enhanced :
    [Instr.rId0, .rId1, .rId2, .rId3].map (fun i => seenOf (exec i (st 0xFF#8 0x7C#8 false true))) =
      [0x00#8, 0xAA#8, 0x55#8, 0x03#8].map fun b => some (⟨0xFF#8, 0x7C#8, false, true⟩, .byte b, []) := by decide
/-- V-wrC1-1 -/
theorem test_identification_write_logged :
    seenOf (exec (.wUnknownC1 0x00#8) (st 0x00#8 0x00#8 true false)) =
      some (⟨0x00#8, 0x00#8, true, false⟩, .nothing, [.logUnknownWrite 0x0C1#10 0x00#8]) := by decide
/-- V-SET-5 -/
theorem test_set_source_without_enable :
    seenOf (exec (.irqset 0#3) (st 0x00#8 0x7C#8 true false)) =
      some (⟨0x01#8, 0x7C#8, true, false⟩, .nothing, [.irqDeassert 9]) := by decide
/-- V-SET-2 -/
theorem test_set_source_twice :
    seenOf (exec (.irqset 5#3) (st 0x20#8 0x20#8 true false)) =
      some (⟨0x20#8, 0x20#8, true, false⟩, .nothing, []) := by decide
/-- V-CLR-1 -/
theorem test_clear_one_of_two :
    seenOf (exec (.irqclr 2#3) (st 0x24#8 0x24#8 true false)) =
      some (⟨0x20#8, 0x24#8, true, false⟩, .nothing, [.irqAssert 9]) := by decide
/-- V-CLR-5 -/
theorem test_clear_source_seven :
    seenOf (exec (.irqclr 7#3) (st 0xFF#8 0x7C#8 false true)) =
      some (⟨0x7F#8, 0x7C#8, false, true⟩, .nothing, [.irqAssert 9]) := by decide
/-- V-RST-1 -/
theorem test_reset :
    seenOf (exec .reset (st 0x24#8 0x7C#8 false true)) =
      some (⟨0x00#8, 0x00#8, true, false⟩, .nothing, []) := by decide
/-- V-SNAP-1 -/
theorem test_snapshot :
    seenOf (exec .snapshot (st 0x20#8 0x0C#8 true true)) =
      some (⟨0x20#8, 0x0C#8, true, true⟩, .tuple ⟨0x20#8, 0x0C#8, true, true⟩, []) := by decide
/-- V-RSTR-1 -/
theorem test_restore :
    seenOf (exec (.restore ⟨0x24#8, 0x0C#8, false, true⟩) (st 0x00#8 0x00#8 true false)) =
      some (⟨0x24#8, 0x0C#8, false, true⟩, .nothing, []) := by decide
/-- V-RSTR-2 -/
theorem test_restore_refused :
    seenOf (exec (.restore ⟨0x00#8, 0x80#8, true, false⟩) (st 0x24#8 0x0C#8 false true)) = none := by decide
/-- V-CB-1 -/
theorem test_callback_judged_by_old_enables :
    seen ((st 0x00#8 0x00#8 true false).writeEnables (stub .update [.set 5#3]) 0x20#8) =
      (⟨0x20#8, 0x20#8, true, false⟩, .nothing,
        [.collab (.setSignal .ack false), .collab .update, .irqDeassert 9, .irqAssert 9]) := by decide
/-- V-CB-3 -/
theorem test_callback_inside_bus_reset :
    seen ((st 0x00#8 0x70#8 true false).writeReset (stub .update [.set 6#3]) 0x02#8) =
      (⟨0x40#8, 0x00#8, true, false⟩, .nothing,
        [.collab (.setSignal .rst true), .collab .update, .irqAssert 9, .irqDeassert 9]) := by decide
/-- V-CB-4 -/
theorem test_callback_inside_acknowledge :
    seen ((env (st 0x40#8 0x40#8 true false) true true false false false 0x5A#8 0x00#8).readDataAuto
        (stub .setAckWithAutoClear [.clear 6#3])) =
      (⟨0x00#8, 0x40#8, true, false⟩, .byte 0x5A#8,
        [.collab .setAckWithAutoClear, .irqDeassert 9, .collab .update]) := by decide
/-- The callbacks heard are those of the armed call alone, in order; a sink call of the block's own between a change and its
update is no adjacency (15_interfaces.md R37, R41) -/
theorem test_callbacks_heard :
    callbacksHeard (stub .update [.set 6#3]) (st 0x00#8 0x00#8 true false).params
        (callsOf (.wCdcReset 0x02#8) (st 0x00#8 0x00#8 true false)) latches = [.set 6#3] ∧
      updatesAtOnce [.collab (.setSignal .ack true), .irqAssert 9, .collab .update] = false := by decide
/-- V-CB-5 -/
theorem test_two_callbacks_of_one_call :
    seen ((st 0x00#8 0x0C#8 true false).call (stub (.adpcmWrite 0x00A#10 0x01#8) [.set 2#3, .set 3#3])
        (.adpcmWrite 0x00A#10 0x01#8)) =
      (⟨0x0C#8, 0x0C#8, true, false⟩, .nothing,
        [.collab (.adpcmWrite 0x00A#10 0x01#8), .irqAssert 9, .irqAssert 9]) := by decide
/-- V-IMG-5, a step on the word of an image -/
theorem test_step_image :
    seenOf (step ((st 0x20#8 0x00#8 false false).withInbox [.op (.bus 0x0180300#25)])) =
      some (⟨0x20#8, 0x00#8, true, true⟩, .byte 0x20#8, []) := by decide
/-- V-IMG-8, the log carries the masked offset -/
theorem test_step_unknown_write :
    seenOf (step ((st 0x00#8 0x00#8 true false).withInbox [.op (.bus 0x1181055#25)])) =
      some (⟨0x00#8, 0x00#8, true, false⟩, .nothing, [.logUnknownWrite 0x010#10 0x55#8]) := by decide
/-- Text form of V-IMG-1 (30_encoding.md R82) -/
theorem test_text_write :
    textOf (.bus 0x1180780#25) = some ['W', ' ', '1', '8', '0', '7', ' ', '8', '0'] := by decide
/-- Text form of V-RSTR-1 with a comment -/
theorem test_text_restore :
    readText ['R', 'E', 'S', 'T', 'O', 'R', 'E', ' ', '2', '4', ' ', '0', 'C', ' ', '0', ' ', '1', ' ', ';', 'x'] =
      some (.host 0b10#2 ⟨0x24#8, 0x0C#8, false, true⟩) := by decide

/-! ### The operations that call a collaborator use the free environment -/

theorem test_selpulse_environment (v : Byte) (s : State) : exec (.wSelpulse v) s = .next (s.pulseSelect Config.respond) := rfl
theorem test_enables_environment (v : Byte) (s : State) :
    exec (.wIrqEnAck v) s = .next (s.writeEnables Config.respond v) := rfl
theorem test_reset_environment (v : Byte) (s : State) :
    exec (.wCdcReset v) s = .next (s.writeReset Config.respond v) := rfl
theorem test_streaming_environment (s : State) : exec .rCdcDataAuto s = .next (s.readDataAuto Config.respond) := rfl

/-! ### Witnesses: concrete values that meet the hypotheses of each statement, clause by clause -/

/-- A state with one input. -/
def given (x : Input) (s : State) : State := s.withInbox [x]

/-- A state of use below: source 5 pending, all enables, BRAM locked. -/
def s0 : State := st 0x20#8 0x7C#8 true false

theorem witness_StepRunsThePresentedOperation :
    (given (.op (.bus 0x0000300#25)) s0).inbox = [.op (.bus 0x0000300#25)] ∧ decode (.bus 0x0000300#25) = .ok .rIrqStat := by
  decide
theorem witness_AccessWidthOtherThanOneIsRefused :
    ((0 : Nat) ≠ 1 ∧ (given (.op (.memRead 0x0003#16 0)) s0).inbox = [.op (.memRead 0x0003#16 0)]) ∧
      ((2 : Nat) ≠ 1 ∧ (given (.op (.memWrite 0x0003#16 2 0)) s0).inbox = [.op (.memWrite 0x0003#16 2 0)]) := by decide

/-- The parameters with SOURCES bits 2 to 6 only. -/
def fiveSources (s : State) : State := { s with params := { s.params with sources := 0x7C#8 } }

theorem witness_SrcWordsDecodeOrAreRefused :
    ((given (.op (.src 0xF#4)) (fiveSources s0)).inbox = [.op (.src 0xF#4)] ∧
        (fiveSources s0).params.sources.getLsbD ((0xF#4).extractLsb' 0 3).toNat = false) ∧
      ((given (.op (.src 0x0#4)) (fiveSources s0)).inbox = [.op (.src 0x0#4)] ∧
        (fiveSources s0).params.sources.getLsbD ((0x0#4).extractLsb' 0 3).toNat = false) := by decide
theorem witness_HostWordsDecodeOrAreRefused :
    (given (.op (.host 0b11#2 emptyPayload)) s0).inbox = [.op (.host 0b11#2 emptyPayload)] := by decide

/-- The state in which a warm reset applies RESET. -/
def warm (s : State) : State := { s with params := { s.params with warmResetResetsBlock := true } }

theorem witness_StepsWithoutAnOperation :
    s0.inbox = [] ∧ (given (.event (.collaborators latches)) s0).inbox = [.event (.collaborators latches)] ∧
      ((given (.event .warmReset) s0).inbox = [.event .warmReset] ∧ s0.params.warmResetResetsBlock = false) ∧
      ((given (.event .warmReset) (warm s0)).inbox = [.event .warmReset] ∧ (warm s0).params.warmResetResetsBlock = true) ∧
      (given (.event .hostSync) s0).inbox = [.event .hostSync] := by decide
theorem witness_StepStopsOnlyOnNoOperation :
    (given (.op (.bus 0x03FFFFF#25)) s0).presentsNoOperation = false ∧
      (given (.op (.host 0b11#2 emptyPayload)) s0).presentsNoOperation = true ∧
      (given (.op (.host 0b10#2 ⟨0x00#8, 0x80#8, true, false⟩)) s0).presentsNoOperation = true ∧
      (given (.op (.src 0x7#4)) (fiveSources s0)).presentsNoOperation = true ∧
      (given (.op (.memRead 0x0000#16 4)) s0).presentsNoOperation = true ∧
      (given (.op (.bus 0x03FFFFF#25)) s0).inbox = [.op (.bus 0x03FFFFF#25)] := by decide
theorem witness_EncodedOperationsDecode :
    (Instr.wUnknown010_01F 0x010#10 0xFF#8).wellFormed = true ∧ (Instr.rUnknown200_3FF 0x3FF#10).wellFormed = true ∧
      (Instr.restore ⟨0xFF#8, 0xFF#8, true, true⟩).wellFormed = true := by decide
theorem witness_EveryBusWordMatchesOneRow :
    busIsWrite 0x0000300#25 = busIsWrite 0x0180300#25 ∧
      offsetOf (busAddress 0x0000300#25) = offsetOf (busAddress 0x0180300#25) ∧
      busValue 0x0000300#25 = busValue 0x0180300#25 := by decide
theorem witness_AddressImagesDecodeAlike : offsetOf 0x1803#16 = offsetOf 0x0003#16 ∧ offsetOf 0x0010#16 ≠ offsetOf 0x0000#16 := by
  decide
theorem witness_TextFormReadsBack : (false = false → 0x00#8 = 0x00#8) ∧ (true = false → 0xFF#8 = 0x00#8) := by decide
theorem witness_EveryStepKeepsTheEnablesInMask :
    s0.EnablesInMask ∧ ∃ t, step (given (.op (.bus 0x10002FF#25)) s0) = .next t := ⟨by decide, _, rfl⟩
theorem witness_EveryStepKeepsTheSinkRecord :
    (st 0x00#8 0x7C#8 true false).LineAgrees ∧ Input.rewritesSilently (.op (.src 0xD#4)) = false ∧
      ∃ t, step (given (.op (.src 0xD#4)) (st 0x00#8 0x7C#8 true false)) = .next t := ⟨by decide, by decide, _, rfl⟩
theorem witness_ChangedMasksAreReported :
    Input.rewritesSilently (.op (.src 0xD#4)) = false ∧
      ∃ t, step (given (.op (.src 0xD#4)) (st 0x00#8 0x7C#8 true false)) = .next t ∧
        t.activeIrqs ≠ (st 0x00#8 0x7C#8 true false).activeIrqs ∧ ∃ c ∈ t.trace, c.isSink = true :=
  ⟨by decide, _, rfl, by decide, .irqAssert 9, by decide, rfl⟩
theorem witness_EveryTraceKeepsTheUpdateDiscipline :
    (∃ t, step (given (.op (.bus 0x1000081#25)) s0) = .next t) ∧
      (given (.op (.bus 0x1000081#25)) s0).inbox = [.op (.bus 0x1000081#25)] ∧
      decode (.bus 0x1000081#25) = .ok (.wSelpulse 0x81#8) := ⟨⟨_, rfl⟩, by decide, by decide⟩
theorem witness_ParametersNeverChange :
    (∃ t, step (given (.op (.host 0b00#2 emptyPayload)) s0) = .next t) ∧ ∃ t, exec (.wFader 0x0D#8) s0 = .next t :=
  ⟨⟨_, rfl⟩, _, rfl⟩

/-- The data-input phase. -/
def dataIn : State := env s0 true true false false false 0x5A#8 0x00#8

theorem witness_SelectPulse :
    (busIsWrite 0x11800FF#25 = true ∧ offsetOf (busAddress 0x11800FF#25) = 0x000#10) := by decide
theorem witness_ReadControllerStatus :
    (busIsWrite 0x01800FF#25 = false ∧ offsetOf (busAddress 0x01800FF#25) = 0x000#10) := by decide
theorem witness_WriteDataPort :
    (busIsWrite 0x11801FF#25 = true ∧ offsetOf (busAddress 0x11801FF#25) = 0x001#10) := by decide
theorem witness_ReadDataPort :
    (busIsWrite 0x01801FF#25 = false ∧ offsetOf (busAddress 0x01801FF#25) = 0x001#10) := by decide
theorem witness_WriteEnablesAndAck :
    (busIsWrite 0x11802FF#25 = true ∧ offsetOf (busAddress 0x11802FF#25) = 0x002#10) := by decide
theorem witness_ReadEnablesAndAck :
    (busIsWrite 0x01802FF#25 = false ∧ offsetOf (busAddress 0x01802FF#25) = 0x002#10) ∧
      s0.EnablesInMask := by decide
theorem witness_WriteStatusHasNoEffect :
    (busIsWrite 0x11803FF#25 = true ∧ offsetOf (busAddress 0x11803FF#25) = 0x003#10) := by decide
theorem witness_ReadStatusLocksAndToggles :
    (busIsWrite 0x01803FF#25 = false ∧ offsetOf (busAddress 0x01803FF#25) = 0x003#10) := by decide
theorem witness_WriteBusReset :
    (busIsWrite 0x11804FF#25 = true ∧ offsetOf (busAddress 0x11804FF#25) = 0x004#10) ∧
      (0x02#8).getLsbD 1 = true ∧ (0xFD#8).getLsbD 1 = false := by decide
theorem witness_ReadBusReset :
    (busIsWrite 0x01804FF#25 = false ∧ offsetOf (busAddress 0x01804FF#25) = 0x004#10) := by decide
theorem witness_SampleWritesHaveNoEffect :
    (busIsWrite 0x11805FF#25 = true ∧ offsetOf (busAddress 0x11805FF#25) = 0x005#10) ∧
      (busIsWrite 0x11806FF#25 = true ∧ offsetOf (busAddress 0x11806FF#25) = 0x006#10) := by decide
theorem witness_SampleReadsReturnTheSelectedChannel :
    (busIsWrite 0x01805FF#25 = false ∧ offsetOf (busAddress 0x01805FF#25) = 0x005#10) ∧
      (busIsWrite 0x01806FF#25 = false ∧ offsetOf (busAddress 0x01806FF#25) = 0x006#10) := by decide
theorem witness_WriteBramUnlock :
    (busIsWrite 0x11807FF#25 = true ∧ offsetOf (busAddress 0x11807FF#25) = 0x007#10) ∧
      (0x80#8).getLsbD 7 = true ∧ (0x7F#8).getLsbD 7 = false := by decide
theorem witness_ReadBramLock :
    (busIsWrite 0x01807FF#25 = false ∧ offsetOf (busAddress 0x01807FF#25) = 0x007#10) := by decide
theorem witness_AdpcmWritesAreForwarded :
    (busIsWrite 0x11808FF#25 = true ∧ offsetOf (busAddress 0x11808FF#25) = 0x008#10) ∧
      (busIsWrite 0x11809FF#25 = true ∧ offsetOf (busAddress 0x11809FF#25) = 0x009#10) ∧
      (busIsWrite 0x1180AFF#25 = true ∧ offsetOf (busAddress 0x1180AFF#25) = 0x00A#10) ∧
      (busIsWrite 0x1180BFF#25 = true ∧ offsetOf (busAddress 0x1180BFF#25) = 0x00B#10) ∧
      (busIsWrite 0x1180CFF#25 = true ∧ offsetOf (busAddress 0x1180CFF#25) = 0x00C#10) ∧
      (busIsWrite 0x1180DFF#25 = true ∧ offsetOf (busAddress 0x1180DFF#25) = 0x00D#10) ∧
      (busIsWrite 0x1180EFF#25 = true ∧ offsetOf (busAddress 0x1180EFF#25) = 0x00E#10) := by decide
theorem witness_StreamingReadAcknowledgesInDataPhase :
    (busIsWrite 0x01808FF#25 = false ∧ offsetOf (busAddress 0x01808FF#25) = 0x008#10) ∧
      (dataIn.collab.adapter.req = true ∧ dataIn.collab.adapter.io = true ∧ dataIn.collab.adapter.cd = false) ∧
      ¬ (s0.collab.adapter.req = true ∧ s0.collab.adapter.io = true ∧ s0.collab.adapter.cd = false) := by decide
theorem witness_AdpcmReadsAreForwarded :
    (busIsWrite 0x01809FF#25 = false ∧ offsetOf (busAddress 0x01809FF#25) = 0x009#10) ∧
      (busIsWrite 0x0180AFF#25 = false ∧ offsetOf (busAddress 0x0180AFF#25) = 0x00A#10) ∧
      (busIsWrite 0x0180BFF#25 = false ∧ offsetOf (busAddress 0x0180BFF#25) = 0x00B#10) ∧
      (busIsWrite 0x0180CFF#25 = false ∧ offsetOf (busAddress 0x0180CFF#25) = 0x00C#10) ∧
      (busIsWrite 0x0180DFF#25 = false ∧ offsetOf (busAddress 0x0180DFF#25) = 0x00D#10) ∧
      (busIsWrite 0x0180EFF#25 = false ∧ offsetOf (busAddress 0x0180EFF#25) = 0x00E#10) := by decide
theorem witness_FaderWriteIsForwarded :
    (busIsWrite 0x1180FFF#25 = true ∧ offsetOf (busAddress 0x1180FFF#25) = 0x00F#10) := by decide
theorem witness_UnknownReadsReturnOpenBus :
    (busIsWrite 0x0180FFF#25 = false ∧ offsetOf (busAddress 0x0180FFF#25) = 0x00F#10) ∧
      (busIsWrite 0x01810FF#25 = false ∧ 0x010#10 ≤ offsetOf (busAddress 0x01810FF#25) ∧
        offsetOf (busAddress 0x01810FF#25) ≤ 0x01F#10) ∧
      (busIsWrite 0x0181FFF#25 = false ∧ 0x010#10 ≤ offsetOf (busAddress 0x0181FFF#25) ∧
        offsetOf (busAddress 0x0181FFF#25) ≤ 0x01F#10) ∧
      (busIsWrite 0x01820FF#25 = false ∧ 0x020#10 ≤ offsetOf (busAddress 0x01820FF#25) ∧
        offsetOf (busAddress 0x01820FF#25) ≤ 0x03F#10) ∧
      (busIsWrite 0x0183FFF#25 = false ∧ 0x020#10 ≤ offsetOf (busAddress 0x0183FFF#25) ∧
        offsetOf (busAddress 0x0183FFF#25) ≤ 0x03F#10) ∧
      (busIsWrite 0x01840FF#25 = false ∧ 0x040#10 ≤ offsetOf (busAddress 0x01840FF#25) ∧
        offsetOf (busAddress 0x01840FF#25) ≤ 0x07F#10) ∧
      (busIsWrite 0x0187FFF#25 = false ∧ 0x040#10 ≤ offsetOf (busAddress 0x0187FFF#25) ∧
        offsetOf (busAddress 0x0187FFF#25) ≤ 0x07F#10) ∧
      (busIsWrite 0x01880FF#25 = false ∧ 0x080#10 ≤ offsetOf (busAddress 0x01880FF#25) ∧
        offsetOf (busAddress 0x01880FF#25) ≤ 0x0BF#10) ∧
      (busIsWrite 0x018BFFF#25 = false ∧ 0x080#10 ≤ offsetOf (busAddress 0x018BFFF#25) ∧
        offsetOf (busAddress 0x018BFFF#25) ≤ 0x0BF#10) ∧
      (busIsWrite 0x018C4FF#25 = false ∧ 0x0C4#10 ≤ offsetOf (busAddress 0x018C4FF#25) ∧
        offsetOf (busAddress 0x018C4FF#25) ≤ 0x0C7#10) ∧
      (busIsWrite 0x018C7FF#25 = false ∧ 0x0C4#10 ≤ offsetOf (busAddress 0x018C7FF#25) ∧
        offsetOf (busAddress 0x018C7FF#25) ≤ 0x0C7#10) ∧
      (busIsWrite 0x018C8FF#25 = false ∧ 0x0C8#10 ≤ offsetOf (busAddress 0x018C8FF#25) ∧
        offsetOf (busAddress 0x018C8FF#25) ≤ 0x0CF#10) ∧
      (busIsWrite 0x018CFFF#25 = false ∧ 0x0C8#10 ≤ offsetOf (busAddress 0x018CFFF#25) ∧
        offsetOf (busAddress 0x018CFFF#25) ≤ 0x0CF#10) ∧
      (busIsWrite 0x018D0FF#25 = false ∧ 0x0D0#10 ≤ offsetOf (busAddress 0x018D0FF#25) ∧
        offsetOf (busAddress 0x018D0FF#25) ≤ 0x0DF#10) ∧
      (busIsWrite 0x018DFFF#25 = false ∧ 0x0D0#10 ≤ offsetOf (busAddress 0x018DFFF#25) ∧
        offsetOf (busAddress 0x018DFFF#25) ≤ 0x0DF#10) ∧
      (busIsWrite 0x018E0FF#25 = false ∧ 0x0E0#10 ≤ offsetOf (busAddress 0x018E0FF#25) ∧
        offsetOf (busAddress 0x018E0FF#25) ≤ 0x0FF#10) ∧
      (busIsWrite 0x018FFFF#25 = false ∧ 0x0E0#10 ≤ offsetOf (busAddress 0x018FFFF#25) ∧
        offsetOf (busAddress 0x018FFFF#25) ≤ 0x0FF#10) ∧
      (busIsWrite 0x01900FF#25 = false ∧ 0x100#10 ≤ offsetOf (busAddress 0x01900FF#25) ∧
        offsetOf (busAddress 0x01900FF#25) ≤ 0x1FF#10) ∧
      (busIsWrite 0x019FFFF#25 = false ∧ 0x100#10 ≤ offsetOf (busAddress 0x019FFFF#25) ∧
        offsetOf (busAddress 0x019FFFF#25) ≤ 0x1FF#10) ∧
      (busIsWrite 0x01A00FF#25 = false ∧ 0x200#10 ≤ offsetOf (busAddress 0x01A00FF#25) ∧
        offsetOf (busAddress 0x01A00FF#25) ≤ 0x3FF#10) ∧
      (busIsWrite 0x01BFFFF#25 = false ∧ 0x200#10 ≤ offsetOf (busAddress 0x01BFFFF#25) ∧
        offsetOf (busAddress 0x01BFFFF#25) ≤ 0x3FF#10) := by
  and_intros <;> decide
theorem witness_UnknownWritesAreOnlyLogged :
    (busIsWrite 0x118C0FF#25 = true ∧ offsetOf (busAddress 0x118C0FF#25) = 0x0C0#10) ∧
      (busIsWrite 0x118C1FF#25 = true ∧ offsetOf (busAddress 0x118C1FF#25) = 0x0C1#10) ∧
      (busIsWrite 0x118C2FF#25 = true ∧ offsetOf (busAddress 0x118C2FF#25) = 0x0C2#10) ∧
      (busIsWrite 0x118C3FF#25 = true ∧ offsetOf (busAddress 0x118C3FF#25) = 0x0C3#10) ∧
      (busIsWrite 0x11810FF#25 = true ∧ 0x010#10 ≤ offsetOf (busAddress 0x11810FF#25) ∧
        offsetOf (busAddress 0x11810FF#25) ≤ 0x01F#10) ∧
      (busIsWrite 0x1181FFF#25 = true ∧ 0x010#10 ≤ offsetOf (busAddress 0x1181FFF#25) ∧
        offsetOf (busAddress 0x1181FFF#25) ≤ 0x01F#10) ∧
      (busIsWrite 0x11820FF#25 = true ∧ 0x020#10 ≤ offsetOf (busAddress 0x11820FF#25) ∧
        offsetOf (busAddress 0x11820FF#25) ≤ 0x03F#10) ∧
      (busIsWrite 0x1183FFF#25 = true ∧ 0x020#10 ≤ offsetOf (busAddress 0x1183FFF#25) ∧
        offsetOf (busAddress 0x1183FFF#25) ≤ 0x03F#10) ∧
      (busIsWrite 0x11840FF#25 = true ∧ 0x040#10 ≤ offsetOf (busAddress 0x11840FF#25) ∧
        offsetOf (busAddress 0x11840FF#25) ≤ 0x07F#10) ∧
      (busIsWrite 0x1187FFF#25 = true ∧ 0x040#10 ≤ offsetOf (busAddress 0x1187FFF#25) ∧
        offsetOf (busAddress 0x1187FFF#25) ≤ 0x07F#10) ∧
      (busIsWrite 0x11880FF#25 = true ∧ 0x080#10 ≤ offsetOf (busAddress 0x11880FF#25) ∧
        offsetOf (busAddress 0x11880FF#25) ≤ 0x0BF#10) ∧
      (busIsWrite 0x118BFFF#25 = true ∧ 0x080#10 ≤ offsetOf (busAddress 0x118BFFF#25) ∧
        offsetOf (busAddress 0x118BFFF#25) ≤ 0x0BF#10) ∧
      (busIsWrite 0x118C4FF#25 = true ∧ 0x0C4#10 ≤ offsetOf (busAddress 0x118C4FF#25) ∧
        offsetOf (busAddress 0x118C4FF#25) ≤ 0x0C7#10) ∧
      (busIsWrite 0x118C7FF#25 = true ∧ 0x0C4#10 ≤ offsetOf (busAddress 0x118C7FF#25) ∧
        offsetOf (busAddress 0x118C7FF#25) ≤ 0x0C7#10) ∧
      (busIsWrite 0x118C8FF#25 = true ∧ 0x0C8#10 ≤ offsetOf (busAddress 0x118C8FF#25) ∧
        offsetOf (busAddress 0x118C8FF#25) ≤ 0x0CF#10) ∧
      (busIsWrite 0x118CFFF#25 = true ∧ 0x0C8#10 ≤ offsetOf (busAddress 0x118CFFF#25) ∧
        offsetOf (busAddress 0x118CFFF#25) ≤ 0x0CF#10) ∧
      (busIsWrite 0x118D0FF#25 = true ∧ 0x0D0#10 ≤ offsetOf (busAddress 0x118D0FF#25) ∧
        offsetOf (busAddress 0x118D0FF#25) ≤ 0x0DF#10) ∧
      (busIsWrite 0x118DFFF#25 = true ∧ 0x0D0#10 ≤ offsetOf (busAddress 0x118DFFF#25) ∧
        offsetOf (busAddress 0x118DFFF#25) ≤ 0x0DF#10) ∧
      (busIsWrite 0x118E0FF#25 = true ∧ 0x0E0#10 ≤ offsetOf (busAddress 0x118E0FF#25) ∧
        offsetOf (busAddress 0x118E0FF#25) ≤ 0x0FF#10) ∧
      (busIsWrite 0x118FFFF#25 = true ∧ 0x0E0#10 ≤ offsetOf (busAddress 0x118FFFF#25) ∧
        offsetOf (busAddress 0x118FFFF#25) ≤ 0x0FF#10) ∧
      (busIsWrite 0x11900FF#25 = true ∧ 0x100#10 ≤ offsetOf (busAddress 0x11900FF#25) ∧
        offsetOf (busAddress 0x11900FF#25) ≤ 0x1FF#10) ∧
      (busIsWrite 0x119FFFF#25 = true ∧ 0x100#10 ≤ offsetOf (busAddress 0x119FFFF#25) ∧
        offsetOf (busAddress 0x119FFFF#25) ≤ 0x1FF#10) ∧
      (busIsWrite 0x11A00FF#25 = true ∧ 0x200#10 ≤ offsetOf (busAddress 0x11A00FF#25) ∧
        offsetOf (busAddress 0x11A00FF#25) ≤ 0x3FF#10) ∧
      (busIsWrite 0x11BFFFF#25 = true ∧ 0x200#10 ≤ offsetOf (busAddress 0x11BFFFF#25) ∧
        offsetOf (busAddress 0x11BFFFF#25) ≤ 0x3FF#10) := by
  and_intros <;> decide

/-- The state on a base unit. -/
def base (s : State) : State := { s with params := { s.params with unitType := .base } }

theorem witness_IdentificationReads :
    (busIsWrite 0x018C0FF#25 = false ∧ offsetOf (busAddress 0x018C0FF#25) = 0x0C0#10) ∧
      (busIsWrite 0x018C1FF#25 = false ∧ offsetOf (busAddress 0x018C1FF#25) = 0x0C1#10) ∧
      (busIsWrite 0x018C2FF#25 = false ∧ offsetOf (busAddress 0x018C2FF#25) = 0x0C2#10) ∧
      (busIsWrite 0x018C3FF#25 = false ∧ offsetOf (busAddress 0x018C3FF#25) = 0x0C3#10) ∧
      s0.params.unitType = .enhanced ∧ (base s0).params.unitType = .base := by decide
theorem test_identification_base :
    [Instr.rId0, .rId1, .rId2, .rId3].map (fun i => seenOf (exec i (base (st 0x00#8 0x00#8 true false)))) =
      List.replicate 4 (some (⟨0x00#8, 0x00#8, true, false⟩, .byte 0xFF#8, [])) := by decide
theorem witness_RecomputationReportsTheLevel :
    s0.enabledIrqs &&& s0.activeIrqs ≠ 0x00#8 ∧
      (st 0x83#8 0x7C#8 true false).enabledIrqs &&& (st 0x83#8 0x7C#8 true false).activeIrqs = 0x00#8 := by decide
theorem witness_SetSource :
    (s0.params.sources.getLsbD (7#3).toNat = true ∧ s0.activeIrqs &&& 1#8 <<< (7#3).toNat = 0x00#8) ∧
      (s0.params.sources.getLsbD (5#3).toNat = true ∧ s0.activeIrqs &&& 1#8 <<< (5#3).toNat ≠ 0x00#8) ∧
      (fiveSources s0).params.sources.getLsbD (0#3).toNat = false := by decide
theorem witness_ClearSource :
    (s0.params.sources.getLsbD (5#3).toNat = true ∧ s0.activeIrqs &&& 1#8 <<< (5#3).toNat ≠ 0x00#8) ∧
      (s0.params.sources.getLsbD (0#3).toNat = true ∧ s0.activeIrqs &&& 1#8 <<< (0#3).toNat = 0x00#8) ∧
      (fiveSources s0).params.sources.getLsbD (7#3).toNat = false := by decide
theorem witness_RestoreOperation :
    (⟨0xFF#8, 0x7C#8, false, false⟩ : Snapshot).enabledIrqs &&& 0x83#8 = 0x00#8 ∧
      (⟨0x00#8, 0x01#8, true, false⟩ : Snapshot).enabledIrqs &&& 0x83#8 ≠ 0x00#8 := by decide
theorem witness_EnablesReadBackUnderAckHeld :
    (∃ t, exec (.wIrqEnAck 0xFF#8) s0 = .next t) ∧
      (env s0 false false false true false 0x00#8 0x00#8).collab.adapter.ack = (0xFF#8).getLsbD 7 := ⟨⟨_, rfl⟩, by decide⟩
theorem witness_TwoStatusReadsDifferInBitOne : s0.activeIrqs.getLsbD 1 = false := by decide
theorem witness_EnablesAreWrittenByFourOperations :
    (∃ t, exec (.wCdcReset 0xFD#8) s0 = .next t) ∧ (∀ v, Instr.wCdcReset 0xFD#8 ≠ .wIrqEnAck v) ∧
      (∀ v, Instr.wCdcReset 0xFD#8 = .wCdcReset v → v.getLsbD 1 = false) ∧ Instr.wCdcReset 0xFD#8 ≠ .reset ∧
      ∀ u, Instr.wCdcReset 0xFD#8 ≠ .restore u := by
  refine ⟨⟨_, rfl⟩, by simp, ?_, by simp, by simp⟩
  intro v h
  cases h
  decide
theorem witness_LockChangesOnlyAsStated :
    (∃ t, exec (.wBramLock 0x80#8) s0 = .next t ∧ s0.bramLocked = true ∧ t.bramLocked = false) ∧
      ∃ t, exec .rIrqStat (s0.withLocked false) = .next t ∧ (s0.withLocked false).bramLocked = false ∧ t.bramLocked = true :=
  ⟨⟨_, rfl, rfl, rfl⟩, _, rfl, rfl, rfl⟩
theorem witness_FlipFlopChangesOnlyByStatusRead :
    ∃ t, exec .rIrqStat s0 = .next t ∧ t.readRightChannel ≠ s0.readRightChannel := ⟨_, rfl, by decide⟩
theorem witness_PendingBitsChangeOnlyBySources :
    (∃ t, exec .rAdpcm0C s0 = .next t) ∧
      (∃ t, exec (.irqset 7#3) s0 = .next t ∧ s0.activeIrqs.getLsbD (7#3).toNat = false ∧
        t.activeIrqs.getLsbD (7#3).toNat = true) ∧
      ∃ t, exec (.irqclr 5#3) s0 = .next t ∧ s0.activeIrqs.getLsbD (5#3).toNat = true ∧
        t.activeIrqs.getLsbD (5#3).toNat = false :=
  ⟨⟨_, rfl⟩, ⟨_, rfl, by decide, by decide⟩, _, rfl, by decide, by decide⟩
theorem witness_PendingBitsChangeOnlyBySources_excluded :
    (∀ b, Instr.rAdpcm0C ≠ .irqset b) ∧ (∀ b, Instr.rAdpcm0C ≠ .irqclr b) ∧ Instr.rAdpcm0C ≠ .reset ∧
      ∀ u, Instr.rAdpcm0C ≠ .restore u := by simp
theorem witness_SourceOperationsAreIdempotent :
    (∃ t, exec (.irqset 7#3) s0 = .next t) ∧ ∃ t, exec (.irqclr 0#3) s0 = .next t := ⟨⟨_, rfl⟩, _, rfl⟩
theorem witness_SourceOperationsCommute :
    (0#3 ≠ 5#3) ∧ ∃ t u t' u', exec (.irqset 0#3) s0 = .next t ∧ exec (.irqclr 5#3) t = .next u ∧
      exec (.irqclr 5#3) s0 = .next t' ∧ exec (.irqset 0#3) t' = .next u' :=
  ⟨by decide, _, _, _, _, rfl, rfl, rfl, rfl⟩
theorem witness_OnlyWritableBitsReachTheLine : s0.EnablesInMask ∧ 0xA3#8 &&& 0x7C#8 = s0.activeIrqs &&& 0x7C#8 := by decide
theorem witness_SnapshotThenRestoreChangesNothing :
    s0.EnablesInMask ∧ ∃ r, exec (.restore ⟨0x24#8, 0x0C#8, false, true⟩) s0 = .next r := ⟨by decide, _, rfl⟩
theorem witness_FirstReadsAfterReset : ∃ t, exec .reset s0 = .next t := ⟨_, rfl⟩

end Sys2Proof.Tests
end

section
/-!
PROOFS. What an operation and a step can leave, said once (`exec_next_closes`, `step_next_cases`), and the statements of
spec/00_scope.md that follow from it.
-/
namespace Sys2Proof.Machine

/-! ### What keeps the parameters and the inbox -/

@[simp] theorem State.updateIrqLine_params (s : State) : s.updateIrqLine.params = s.params := by
  rw [updateIrqLine_eq]
@[simp] theorem State.updateIrqLine_inbox (s : State) : s.updateIrqLine.inbox = s.inbox := by
  rw [updateIrqLine_eq]

@[simp] theorem State.runCallback_params (s : State) (c : Callback) : (s.runCallback c).params = s.params := by
  rw [runCallback_eq]
@[simp] theorem State.runCallback_inbox (s : State) (c : Callback) : (s.runCallback c).inbox = s.inbox := by
  rw [runCallback_eq]

@[simp] theorem State.applyEvent_params (e : EnvEvent) (s : State) : (s.applyEvent e).params = s.params := by
  cases e with
  | collaborators k => rfl
  | warmReset =>
    change (if s.params.warmResetResetsBlock then s.powerOn else s).params = s.params
    split
    · exact State.install_params powerOnTuple s
    · rfl
  | hostSync => rfl

/-! ### What an operation can leave -/

@[simp] theorem afterCalls_nil (env : Environment) (s : State) : s.afterCalls env [] = s := by
  simp [State.afterCalls, exchange, lastLevel]

/-- How an operation ends, from the state `x` its own collaborator calls (`callsOf`) have left: with no further change, or
with the one change of the block's own that its rule names. -/
inductive ClosesWith : Instr → State → State → Prop where
  | unchanged {i : Instr} {x : State} : ClosesWith i x x
  | replied {i : Instr} {x : State} (b : Byte) : ClosesWith i x (x.reply b)
  | loggedRead {i : Instr} {x : State} (off : Offset) : ClosesWith i x (x.readUnknown off)
  | loggedWrite {i : Instr} {x : State} (off : Offset) (v : Byte) : ClosesWith i x (x.writeUnknown off v)
  | enablesStored {x : State} (v : Byte) :
      ClosesWith (.wIrqEnAck v) x (x.withEnabled (v &&& irqWritableMask)).updateIrqLine
  | enablesDropped {x : State} {v : Byte} (hv : valueReset v = true) : ClosesWith (.wCdcReset v) x x.dropResetEnables
  | unlocked {x : State} {v : Byte} (hv : valueUnlock v = true) : ClosesWith (.wBramLock v) x (x.withLocked false)
  | statusRead {x : State} : ClosesWith .rIrqStat x x.readStatus
  | sourceSet {x : State} {b : SourceIndex} (hb : x.params.admits b = true) :
      ClosesWith (.irqset b) x (x.runCallback (.set b))
  | sourceCleared {x : State} {b : SourceIndex} (hb : x.params.admits b = true) :
      ClosesWith (.irqclr b) x (x.runCallback (.clear b))
  | poweredOn {x : State} : ClosesWith .reset x x.powerOn
  | captured {x : State} : ClosesWith .snapshot x (x.withResult (.tuple x.capture))
  | installed {x : State} {u : Snapshot} (hu : admissibleTuple u = true) : ClosesWith (.restore u) x (x.install u)

/-- An operation that makes no collaborator call closes from the state it starts in. -/
theorem ClosesWith.of_no_calls {i : Instr} {s t : State} (hc : callsOf i s = []) (h : ClosesWith i s t) :
    ClosesWith i (s.afterCalls Config.respond (callsOf i s)) t := by
  rwa [hc, afterCalls_nil]

/-- Every operation that completes makes the collaborator calls `callsOf` lists, and then closes. -/
theorem exec_next_closes {i : Instr} {s t : State} (h : exec i s = .next t) :
    ClosesWith i (s.afterCalls Config.respond (callsOf i s)) t := by
  cases i with
  | wIrqStat | wSampleLo | wSampleHi =>
    cases h
    exact .of_no_calls rfl .unchanged
  | rCdcStat | rCdcData | rIrqEnAck | rCdcReset | rSampleLo | rSampleHi | rBramLock | rId0 | rId1 | rId2 | rId3 =>
    cases h
    exact .of_no_calls rfl (.replied _)
  | rUnknown0F | rUnknown010_01F | rUnknown020_03F | rUnknown040_07F | rUnknown080_0BF | rUnknown0C4_0C7
  | rUnknown0C8_0CF | rUnknown0D0_0DF | rUnknown0E0_0FF | rUnknown100_1FF | rUnknown200_3FF =>
    cases h
    exact .of_no_calls rfl (.loggedRead _)
  | wUnknownC0 | wUnknownC1 | wUnknownC2 | wUnknownC3 | wUnknown010_01F | wUnknown020_03F | wUnknown040_07F
  | wUnknown080_0BF | wUnknown0C4_0C7 | wUnknown0C8_0CF | wUnknown0D0_0DF | wUnknown0E0_0FF | wUnknown100_1FF
  | wUnknown200_3FF =>
    cases h
    exact .of_no_calls rfl (.loggedWrite _ _)
  | wAdpcm08 | wAdpcm09 | wAdpcm0A | wAdpcm0B | wAdpcm0C | wAdpcm0D | wAdpcm0E | wFader =>
    cases h
    rw [call_eq]
    exact .unchanged
  | rAdpcm09 | rAdpcm0A | rAdpcm0B | rAdpcm0C | rAdpcm0D | rAdpcm0E =>
    cases h
    rw [State.readAdpcm, call_eq]
    exact .replied _
  | wSelpulse v =>
    cases h
    rw [pulseSelect_eq]
    exact .unchanged
  | wCdcData v =>
    cases h
    rw [callThenUpdate_eq]
    exact .unchanged
  | wIrqEnAck v =>
    cases h
    rw [State.writeEnables, callThenUpdate_eq]
    exact .enablesStored v
  | wCdcReset v =>
    cases h
    have hcalls : s.afterCalls Config.respond (callsOf (.wCdcReset v) s) =
        s.callThenUpdate Config.respond (.setSignal .rst (valueReset v)) := (callThenUpdate_eq _ _ s).symm
    rw [hcalls, State.writeReset]
    split
    case isTrue hv =>
      rw [hv]
      exact .enablesDropped hv
    case isFalse hv =>
      rw [Bool.eq_false_iff.mpr hv]
      exact .unchanged
  | rCdcDataAuto =>
    cases h
    rw [State.readDataAuto, callsOf]
    split
    · rw [callThenUpdate_eq]
      exact .replied _
    · rw [afterCalls_nil]
      exact .replied _
  | wBramLock v =>
    cases h
    split
    case isTrue hv => exact .of_no_calls rfl (.unlocked hv)
    case isFalse => exact .of_no_calls rfl .unchanged
  | rIrqStat =>
    cases h
    exact .of_no_calls rfl .statusRead
  | irqset b =>
    rw [exec, execIrqset] at h
    split at h
    case isTrue hb =>
      cases h
      exact .of_no_calls rfl (.sourceSet hb)
    case isFalse => cases h
  | irqclr b =>
    rw [exec, execIrqclr] at h
    split at h
    case isTrue hb =>
      cases h
      exact .of_no_calls rfl (.sourceCleared hb)
    case isFalse => cases h
  | reset =>
    cases h
    exact .of_no_calls rfl .poweredOn
  | snapshot =>
    cases h
    exact .of_no_calls rfl .captured
  | restore u =>
    rw [exec, execRestore] at h
    split at h
    case isTrue hu =>
      cases h
      exact .of_no_calls rfl (.installed hu)
    case isFalse => cases h

/-- No closing change touches the parameters or the inbox. -/
theorem ClosesWith.params_inbox {i : Instr} {x t : State} (h : ClosesWith i x t) :
    t.params = x.params ∧ t.inbox = x.inbox := by
  cases h with
  | enablesStored v => exact ⟨State.updateIrqLine_params _, State.updateIrqLine_inbox _⟩
  | enablesDropped hv => exact ⟨State.updateIrqLine_params _, State.updateIrqLine_inbox _⟩
  | sourceSet hb => exact ⟨State.runCallback_params _ _, State.runCallback_inbox _ _⟩
  | sourceCleared hb => exact ⟨State.runCallback_params _ _, State.runCallback_inbox _ _⟩
  | unchanged | replied | loggedRead | loggedWrite | unlocked | statusRead | poweredOn | captured | installed =>
    exact ⟨rfl, rfl⟩

/-- No operation changes a parameter or the inbox (R6; log 1). -/
theorem exec_next_params_inbox {i : Instr} {s t : State} (h : exec i s = .next t) :
    t.params = s.params ∧ t.inbox = s.inbox :=
  (exec_next_closes h).params_inbox

/-! ### What a step can do -/

/-- With nothing presented a step is idle. -/
theorem step_idle {s : State} (hs : s.inbox = []) : step s = .next (s.begin []) := by
  simp only [step, hs]

/-- A presented environment event is applied. -/
theorem step_event {s : State} {e : EnvEvent} {rest : List Input} (hs : s.inbox = .event e :: rest) :
    step s = .next ((s.begin rest).applyEvent e) := by
  simp only [step, hs]

/-- A presented transaction that decodes is executed. -/
theorem step_op {s : State} {x : Transaction} {i : Instr} {rest : List Input} (hs : s.inbox = .op x :: rest)
    (hx : decode x = .ok i) : step s = exec i (s.begin rest) := by
  simp only [step, hs, hx]

/-- A presented transaction that is no operation is refused. -/
theorem step_no_op {s : State} {x : Transaction} {e : DecodeError} {rest : List Input} (hs : s.inbox = .op x :: rest)
    (hx : decode x = .error e) : step s = .refused (refusalOf e) := by
  simp only [step, hs, hx]

/-- A step that completes was idle, applied an event, or ran the operation presented. -/
theorem step_next_cases {s t : State} (h : step s = .next t) :
    (s.inbox = [] ∧ t = s.begin []) ∨
    (∃ e rest, s.inbox = .event e :: rest ∧ t = (s.begin rest).applyEvent e) ∨
    (∃ x i rest, s.inbox = .op x :: rest ∧ decode x = .ok i ∧ exec i (s.begin rest) = .next t) := by
  match hs : s.inbox with
  | [] =>
    rw [step_idle hs] at h
    cases h
    exact .inl ⟨rfl, rfl⟩
  | .event e :: rest =>
    rw [step_event hs] at h
    cases h
    exact .inr (.inl ⟨e, rest, rfl, rfl⟩)
  | .op x :: rest =>
    match hx : decode x with
    | .ok i => exact .inr (.inr ⟨x, i, rest, rfl, hx, step_op hs hx ▸ h⟩)
    | .error e =>
      rw [step_no_op hs hx] at h
      cases h

/-- No step changes a parameter (R6). -/
theorem step_next_params {s t : State} (h : step s = .next t) : t.params = s.params := by
  obtain ⟨-, rfl⟩ | ⟨e, rest, -, rfl⟩ | ⟨x, i, rest, -, -, hexec⟩ := step_next_cases h
  · exact State.begin_params [] s
  · rw [State.applyEvent_params, State.begin_params]
  · exact (exec_next_params_inbox hexec).1

end Sys2Proof.Machine

namespace Sys2Proof.Proofs

open Sys2Proof.Machine

/-- Settles O19: an operation is its collaborator calls and one closing change, none of which touches the parameters or the
inbox; a step adds only the beginning of an operation and the environment's events. -/
theorem parametersNeverChange : Obligations.ParametersNeverChange :=
  ⟨fun _ _ => step_next_params, fun _ _ _ => exec_next_params_inbox⟩

/-- Settles O1: the begun state is the state with the rest of the inbox, no result and no trace. -/
theorem stepRunsThePresentedOperation : Obligations.StepRunsThePresentedOperation :=
  fun _ _ _ _ hs hx => step_op hs hx

end Sys2Proof.Proofs
end

section
/-!
PROOFS. The statements about the state's fields (spec/10_state.md): for each field what an operation can leave in it
(`exec_next_enabledIrqs`, `exec_next_bramLocked`, `exec_next_readRightChannel`), that the interrupt controller's record stays
the level (`exec_next_lineAgrees`), and what a snapshot holds.
-/
namespace Sys2Proof.Machine

/-! ### What a recomputation and a callback leave alone -/

@[simp] theorem State.updateIrqLine_enabledIrqs (s : State) : s.updateIrqLine.enabledIrqs = s.enabledIrqs := by
  rw [updateIrqLine_eq]
@[simp] theorem State.updateIrqLine_bramLocked (s : State) : s.updateIrqLine.bramLocked = s.bramLocked := by
  rw [updateIrqLine_eq]
@[simp] theorem State.updateIrqLine_readRightChannel (s : State) : s.updateIrqLine.readRightChannel = s.readRightChannel := by
  rw [updateIrqLine_eq]

@[simp] theorem State.runCallback_enabledIrqs (s : State) (c : Callback) : (s.runCallback c).enabledIrqs = s.enabledIrqs := by
  rw [runCallback_eq]
@[simp] theorem State.runCallback_bramLocked (s : State) (c : Callback) : (s.runCallback c).bramLocked = s.bramLocked := by
  rw [runCallback_eq]
@[simp] theorem State.runCallback_readRightChannel (s : State) (c : Callback) :
    (s.runCallback c).readRightChannel = s.readRightChannel := by
  rw [runCallback_eq]

/-! ### The enables (R12) -/

/-- The value an operation leaves in the enables: its collaborator calls, callbacks included, do not write them. -/
theorem exec_next_enabledIrqs {i : Instr} {s t : State} (h : exec i s = .next t) :
    t.enabledIrqs = s.enabledIrqs ∨
    (∃ v, i = .wIrqEnAck v ∧ t.enabledIrqs = v &&& irqWritableMask) ∨
    (∃ v, i = .wCdcReset v ∧ valueReset v = true ∧ t.enabledIrqs = s.enabledIrqs &&& irqResetKeepMask) ∨
    (i = .reset ∧ t.enabledIrqs = 0x00#8) ∨
    (∃ u, i = .restore u ∧ admissibleTuple u = true ∧ t.enabledIrqs = u.enabledIrqs) := by
  cases exec_next_closes h with
  | enablesStored v => exact .inr (.inl ⟨v, rfl, State.updateIrqLine_enabledIrqs _⟩)
  | enablesDropped hv => exact .inr (.inr (.inl ⟨_, rfl, hv, State.updateIrqLine_enabledIrqs _⟩))
  | poweredOn => exact .inr (.inr (.inr (.inl ⟨rfl, rfl⟩)))
  | installed hu => exact .inr (.inr (.inr (.inr ⟨_, rfl, hu, rfl⟩)))
  | sourceSet | sourceCleared => exact .inl (State.runCallback_enabledIrqs _ _)
  | unchanged | replied | loggedRead | loggedWrite | unlocked | statusRead | captured => exact .inl rfl

/-- A value under the writable mask has bits 0, 1 and 7 clear. -/
theorem and_irqWritableMask_inMask (v : Byte) : v &&& irqWritableMask &&& 0x83#8 = 0x00#8 := by
  rw [BitVec.and_assoc]
  exact BitVec.and_zero

/-- The mask of a bus reset keeps bits 0, 1 and 7 as they are. -/
theorem and_irqResetKeepMask_outside (e : Byte) : e &&& irqResetKeepMask &&& 0x83#8 = e &&& 0x83#8 := by
  rw [BitVec.and_assoc]
  rfl

/-- Every operation keeps the enables in the writable mask (R12). -/
theorem exec_next_enablesInMask {i : Instr} {s t : State} (hs : s.EnablesInMask) (h : exec i s = .next t) :
    t.EnablesInMask := by
  unfold State.EnablesInMask
  obtain ht | ⟨v, -, ht⟩ | ⟨v, -, -, ht⟩ | ⟨-, ht⟩ | ⟨u, -, hu, ht⟩ := exec_next_enabledIrqs h
  · rw [ht, hs]
  · rw [ht, and_irqWritableMask_inMask]
  · rw [ht, and_irqResetKeepMask_outside, hs]
  · rw [ht, BitVec.zero_and]
  · rw [ht]
    exact eq_of_beq hu

/-- Every environment step keeps the enables in the writable mask: only a warm reset writes them, with zero. -/
theorem applyEvent_enablesInMask {s : State} (hs : s.EnablesInMask) (e : EnvEvent) : (s.applyEvent e).EnablesInMask := by
  cases e with
  | collaborators k => exact hs
  | warmReset =>
    rw [State.applyEvent]
    split
    · exact BitVec.zero_and
    · exact hs
  | hostSync => exact hs

/-- With the enables in the writable mask, masking them changes nothing. -/
theorem State.EnablesInMask.and_writable {s : State} (hs : s.EnablesInMask) : s.enabledIrqs &&& 0x7C#8 = s.enabledIrqs :=
  calc s.enabledIrqs &&& 0x7C#8
      = s.enabledIrqs &&& 0x83#8 ||| s.enabledIrqs &&& 0x7C#8 := by rw [hs, BitVec.zero_or]
    _ = s.enabledIrqs &&& (0x83#8 ||| 0x7C#8) := BitVec.and_or_distrib_left.symm
    _ = s.enabledIrqs := BitVec.and_allOnes

/-! ### The record of the line (R15, R150) -/

/-- A recomputation puts the level of the state on record. -/
theorem updateIrqLine_lineAgrees (s : State) : s.updateIrqLine.LineAgrees := by
  rw [updateIrqLine_eq]
  rfl

/-- A callback recomputes the line if it changes a pending bit, and otherwise changes nothing. -/
theorem runCallback_lineAgrees {s : State} (hs : s.LineAgrees) (c : Callback) : (s.runCallback c).LineAgrees := by
  cases c with
  | set b =>
    rw [State.runCallback, State.setSource]
    split
    · exact updateIrqLine_lineAgrees _
    · exact hs
  | clear b =>
    rw [State.runCallback, State.clearSource]
    split
    · exact hs
    · exact updateIrqLine_lineAgrees _

/-- The callbacks of a call keep the record agreeing. -/
theorem runCallbacks_lineAgrees {s : State} (hs : s.LineAgrees) (cbs : List Callback) : (s.runCallbacks cbs).LineAgrees :=
  List.foldlRecOn _ State.runCallback hs fun _ hx c _ => runCallback_lineAgrees hx c

/-- A collaborator call touches neither mask nor the record but by its callbacks. -/
theorem call_lineAgrees (env : Environment) (c : CollabCall) {s : State} (hs : s.LineAgrees) : (s.call env c).LineAgrees := by
  apply runCallbacks_lineAgrees
  exact hs

/-- A sequence of collaborator calls keeps the record agreeing, callbacks included. -/
theorem afterCalls_lineAgrees (env : Environment) (cs : List CollabCall) {s : State} (hs : s.LineAgrees) :
    (s.afterCalls env cs).LineAgrees := by
  induction cs generalizing s with
  | nil => rwa [afterCalls_nil]
  | cons c cs ih =>
    rw [← List.singleton_append, ← afterCalls_append, ← call_eq]
    exact ih (call_lineAgrees env c hs)

/-- The operations that rewrite the masks without a sink call (R160, R162). -/
def rewritesMasksSilently : Instr → Bool
  | .reset => true
  | .restore _ => true
  | _ => false

/-- No BUS word asks for RESET or RESTORE. -/
theorem decodeBus_rewritesMasksSilently (w : BitVec 25) : rewritesMasksSilently (decodeBus w) = false := by
  rw [decodeBus]
  split
  · simp only [decodeWrite, apply_ite rewritesMasksSilently]
    simp only [rewritesMasksSilently, ite_self]
  · simp only [decodeRead, apply_ite rewritesMasksSilently]
    simp only [rewritesMasksSilently, ite_self]

/-- A transaction rewrites the masks silently exactly when the operation it asks for does. -/
theorem rewritesSilently_of_decode {x : Transaction} {i : Instr} (h : decode x = .ok i) :
    (Input.op x).rewritesSilently = rewritesMasksSilently i := by
  cases x with
  | bus w =>
    cases h
    exact (decodeBus_rewritesMasksSilently w).symm
  | src q =>
    cases h
    rw [decodeSrc]
    split <;> rfl
  | host w u =>
    rw [decode, decodeHost] at h
    split_ifs at h with hreset hsnapshot hrestore
    · cases h
      rw [hreset]
      rfl
    · cases h
      rw [hsnapshot]
      rfl
    · cases h
      rw [hrestore]
      rfl
  | memRead a n =>
    rw [decode] at h
    split at h
    · cases h
      exact (decodeBus_rewritesMasksSilently _).symm
    · cases h
  | memWrite a n v =>
    rw [decode] at h
    split at h
    · cases h
      exact (decodeBus_rewritesMasksSilently _).symm
    · cases h

/-- A closing change either leaves both masks and the record alone, recomputes the line, or is that of RESET or RESTORE. -/
theorem ClosesWith.lineAgrees {i : Instr} {x t : State} (h : ClosesWith i x t) (hi : rewritesMasksSilently i = false)
    (hx : x.LineAgrees) : t.LineAgrees := by
  cases h with
  | enablesStored | enablesDropped => exact updateIrqLine_lineAgrees _
  | sourceSet | sourceCleared => exact runCallback_lineAgrees hx _
  | poweredOn | installed => cases hi
  | unchanged | replied | loggedRead | loggedWrite | unlocked | statusRead | captured => exact hx

/-- Every operation but RESET and RESTORE keeps the record agreeing. -/
theorem exec_next_lineAgrees {i : Instr} {s t : State} (hi : rewritesMasksSilently i = false) (hs : s.LineAgrees)
    (h : exec i s = .next t) : t.LineAgrees :=
  (exec_next_closes h).lineAgrees hi (afterCalls_lineAgrees _ _ hs)

/-- Every environment step but a warm reset keeps the record agreeing: the host's synchronising makes it agree. -/
theorem applyEvent_lineAgrees {s : State} {e : EnvEvent} (he : (Input.event e).rewritesSilently = false)
    (hs : s.LineAgrees) : (s.applyEvent e).LineAgrees := by
  cases e with
  | collaborators k => exact hs
  | warmReset => cases he
  | hostSync => rfl

/-! ### The lock and the flip-flop (R13, R14) -/

/-- The value an operation leaves in the lock: its collaborator calls do not write it. -/
theorem exec_next_bramLocked {i : Instr} {s t : State} (h : exec i s = .next t) :
    t.bramLocked = s.bramLocked ∨
    (∃ v, i = .wBramLock v ∧ valueUnlock v = true ∧ t.bramLocked = false) ∨
    ((i = .rIrqStat ∨ i = .reset) ∧ t.bramLocked = true) ∨
    (∃ u, i = .restore u) := by
  cases exec_next_closes h with
  | unlocked hv => exact .inr (.inl ⟨_, rfl, hv, rfl⟩)
  | statusRead => exact .inr (.inr (.inl ⟨.inl rfl, rfl⟩))
  | poweredOn => exact .inr (.inr (.inl ⟨.inr rfl, rfl⟩))
  | installed hu => exact .inr (.inr (.inr ⟨_, rfl⟩))
  | enablesStored | enablesDropped => exact .inl (State.updateIrqLine_bramLocked _)
  | sourceSet | sourceCleared => exact .inl (State.runCallback_bramLocked _ _)
  | unchanged | replied | loggedRead | loggedWrite | captured => exact .inl rfl

/-- The operations that can write the flip-flop: no collaborator call does. -/
theorem exec_next_readRightChannel {i : Instr} {s t : State} (h : exec i s = .next t) :
    t.readRightChannel = s.readRightChannel ∨ i = .rIrqStat ∨ i = .reset ∨ ∃ u, i = .restore u := by
  cases exec_next_closes h with
  | statusRead => exact .inr (.inl rfl)
  | poweredOn => exact .inr (.inr (.inl rfl))
  | installed hu => exact .inr (.inr (.inr ⟨_, rfl⟩))
  | enablesStored | enablesDropped => exact .inl (State.updateIrqLine_readRightChannel _)
  | sourceSet | sourceCleared => exact .inl (State.runCallback_readRightChannel _ _)
  | unchanged | replied | loggedRead | loggedWrite | unlocked | captured => exact .inl rfl

/-! ### Snapshot and restore (R161, R162) -/

/-- Installing the tuple of a state leaves it as it is. -/
theorem install_capture (s : State) : s.install s.capture = s := rfl

/-- The tuple of a state just restored is the one restored. -/
theorem capture_install (u : Snapshot) (s : State) : (s.install u).capture = u := rfl

/-- RESTORE of an admissible tuple installs it. -/
theorem exec_restore_admissible {u : Snapshot} (hu : admissibleTuple u = true) (s : State) :
    exec (.restore u) s = .next (s.install u) :=
  if_pos hu

/-- A RESTORE that completes has installed its tuple. -/
theorem exec_restore_next {u : Snapshot} {s t : State} (h : exec (.restore u) s = .next t) : t = s.install u := by
  rw [exec, execRestore] at h
  split at h <;> cases h
  rfl

/-- The tuple of a state with its enables in the mask is admissible. -/
theorem admissibleTuple_capture {s : State} (hs : s.EnablesInMask) : admissibleTuple s.capture = true :=
  beq_iff_eq.mpr hs

end Sys2Proof.Machine

namespace Sys2Proof.Proofs

open Sys2Proof.Machine

/-- Settles O15: a step begins an operation, which leaves the enables alone, and then applies an event or runs an operation. -/
theorem everyStepKeepsTheEnablesInMask : Obligations.EveryStepKeepsTheEnablesInMask := by
  intro s t hs h
  obtain ⟨-, rfl⟩ | ⟨e, rest, -, rfl⟩ | ⟨x, i, rest, -, -, hexec⟩ := step_next_cases h
  · exact hs
  · exact applyEvent_enablesInMask (s := s.begin rest) hs e
  · exact exec_next_enablesInMask (s := s.begin rest) hs hexec

/-- Settles O16: whatever changes a mask recomputes the line at once, but for the three inputs the statement excludes. -/
theorem everyStepKeepsTheSinkRecord : Obligations.EveryStepKeepsTheSinkRecord := by
  intro s t hs hin h
  obtain ⟨-, rfl⟩ | ⟨e, rest, hbox, rfl⟩ | ⟨x, i, rest, hbox, hdec, hexec⟩ := step_next_cases h
  · exact hs
  · exact applyEvent_lineAgrees (s := s.begin rest) (hin _ _ hbox) hs
  · have hi : rewritesMasksSilently i = false := (rewritesSilently_of_decode hdec).symm.trans (hin _ _ hbox)
    exact exec_next_lineAgrees (s := s.begin rest) hi hs hexec

/-- Settles O49: each of the four writers of the enables is excluded by a premise. -/
theorem enablesAreWrittenByFourOperations : Obligations.EnablesAreWrittenByFourOperations := by
  intro i s t h hen hrst hreset hrestore
  obtain ht | ⟨v, hi, -⟩ | ⟨v, hi, hv, -⟩ | ⟨hi, -⟩ | ⟨u, hi, -, -⟩ := exec_next_enabledIrqs h
  · exact ht
  · exact absurd hi (hen v)
  · exact absurd hv (Bool.eq_false_iff.mp (hrst v hi))
  · exact absurd hi hreset
  · exact absurd hi (hrestore u)

/-- Settles O50: W 0x07 with bit 7 leaves the lock false, R 0x03 and RESET leave it true, and only RESTORE can do both. -/
theorem lockChangesOnlyAsStated : Obligations.LockChangesOnlyAsStated := by
  intro i s t h
  obtain ht | ⟨v, hi, hv, ht⟩ | ⟨hi, ht⟩ | hi := exec_next_bramLocked h
  · rw [ht]
    exact ⟨fun hl hu => absurd (hl.symm.trans hu) (by decide), fun hu hl => absurd (hl.symm.trans hu) (by decide)⟩
  · exact ⟨fun _ _ => .inl ⟨v, hi, hv⟩, fun _ hl => absurd (hl.symm.trans ht) (by decide)⟩
  · exact ⟨fun _ hu => absurd (ht.symm.trans hu) (by decide), fun _ _ => hi.imp_right .inl⟩
  · exact ⟨fun _ _ => .inr hi, fun _ _ => .inr (.inr hi)⟩

/-- Settles O51: an operation that is none of the three leaves the flip-flop as it is. -/
theorem flipFlopChangesOnlyByStatusRead : Obligations.FlipFlopChangesOnlyByStatusRead :=
  fun _ _ _ h hne => (exec_next_readRightChannel h).resolve_left hne

/-- Settles O13: the values of R17, and no enabled bit meets a pending one. -/
theorem powerOnState : Obligations.PowerOnState :=
  ⟨rfl, rfl, rfl, rfl, rfl⟩

/-- Settles O14: the enables are zero, and so is the level, as the record is. -/
theorem powerOnMeetsTheInvariants : Obligations.PowerOnMeetsTheInvariants :=
  ⟨rfl, rfl⟩

/-- Settles O55: in-mask enables are their own conjunction with 0x7C, so the pending bits meet them under that mask only. -/
theorem onlyWritableBitsReachTheLine : Obligations.OnlyWritableBitsReachTheLine := by
  intro s a hs ha
  have masked (b : Byte) : s.enabledIrqs &&& b = s.enabledIrqs &&& (b &&& 0x7C#8) := by
    rw [BitVec.and_comm b, ← BitVec.and_assoc, hs.and_writable]
  have hlevel : s.enabledIrqs &&& a = s.enabledIrqs &&& s.activeIrqs := by
    rw [masked a, ha, ← masked]
  simp only [State.irqLevel, levelOf, hlevel]

/-- Settles O56: a tuple is captured from, and installed into, the same four fields. -/
theorem snapshotThenRestoreChangesNothing : Obligations.SnapshotThenRestoreChangesNothing := by
  constructor
  · intro s hs
    refine ⟨s.capture, rfl, ?_⟩
    rw [exec_restore_admissible (admissibleTuple_capture hs), install_capture]
  · intro u s t h
    rw [exec_restore_next h]
    exact congrArg (fun w => Host.Outcome.next ((s.install u).withResult (.tuple w))) (capture_install u s)

end Sys2Proof.Proofs
end

section
/-!
PROOFS. The pending bits (spec/10_state.md R11): what an operation can leave in them (`exec_next_activeIrqs`,
`exec_next_pendingBit`), and which collaborator calls it makes (`exec_next_collabCalls`).
-/
namespace Sys2Proof.Machine

/-! ### The collaborator calls of an operation (R41, R47) -/

/-- A report of the level is no collaborator call. -/
@[simp] theorem collabCall?_sinkCall (line : Nat) (level : Bool) : (sinkCall line level).collabCall? = none := by
  cases level <;> rfl

/-- A recomputation makes no collaborator call. -/
@[simp] theorem updateIrqLine_collabCalls (s : State) :
    s.updateIrqLine.trace.filterMap Call.collabCall? = s.trace.filterMap Call.collabCall? := by
  rw [updateIrqLine_eq]
  simp

/-- A callback makes no collaborator call. -/
@[simp] theorem runCallback_collabCalls (s : State) (c : Callback) :
    (s.runCallback c).trace.filterMap Call.collabCall? = s.trace.filterMap Call.collabCall? := by
  rw [runCallback_eq]
  simp [filterMap_sinkCalls]

/-- A log entry is no collaborator call. -/
theorem emit_collabCalls {c : Call} (hc : c.collabCall? = none) (s : State) :
    (s.emit c).trace.filterMap Call.collabCall? = s.trace.filterMap Call.collabCall? := by
  simp [hc]

/-- A sequence of collaborator calls adds just those to the trace. -/
theorem afterCalls_collabCalls (env : Environment) (cs : List CollabCall) (s : State) :
    (s.afterCalls env cs).trace.filterMap Call.collabCall? = s.trace.filterMap Call.collabCall? ++ cs := by
  simp [State.afterCalls, exchange_collabCalls]

/-- A closing change makes no collaborator call. -/
theorem ClosesWith.collabCalls {i : Instr} {x t : State} (h : ClosesWith i x t) :
    t.trace.filterMap Call.collabCall? = x.trace.filterMap Call.collabCall? := by
  cases h with
  | enablesStored | enablesDropped => exact updateIrqLine_collabCalls _
  | sourceSet | sourceCleared => exact runCallback_collabCalls _ _
  | loggedRead | loggedWrite => exact emit_collabCalls rfl _
  | unchanged | replied | unlocked | statusRead | poweredOn | captured | installed => rfl

/-- The collaborator calls an operation adds to the trace are `callsOf` of it. -/
theorem exec_next_collabCalls {i : Instr} {s t : State} (h : exec i s = .next t) :
    t.trace.filterMap Call.collabCall? = s.trace.filterMap Call.collabCall? ++ callsOf i s :=
  (exec_next_closes h).collabCalls.trans (afterCalls_collabCalls _ _ s)

/-! ### The pending bits after an operation (R11, R151, R152) -/

@[simp] theorem State.updateIrqLine_activeIrqs (s : State) : s.updateIrqLine.activeIrqs = s.activeIrqs := by
  rw [updateIrqLine_eq]
@[simp] theorem State.runCallback_activeIrqs (s : State) (c : Callback) :
    (s.runCallback c).activeIrqs = maskAfter s.activeIrqs [c] := by
  rw [runCallback_eq]

/-- A sequence of collaborator calls leaves the pending bits its callbacks leave. -/
theorem afterCalls_activeIrqs (env : Environment) (cs : List CollabCall) (s : State) :
    (s.afterCalls env cs).activeIrqs = maskAfter s.activeIrqs (callbacksHeard env s.params cs s.collab) :=
  exchange_active env s.params s.enabledIrqs cs _

/-- The callbacks heard during an operation's own collaborator calls, in order (R41). -/
def heardDuring (i : Instr) (s : State) : List Callback :=
  callbacksHeard Config.respond s.params (callsOf i s) s.collab

/-- What an operation leaves in the pending bits: what its callbacks leave, but for IRQSET, IRQCLR, RESET and RESTORE. -/
theorem exec_next_activeIrqs {i : Instr} {s t : State} (h : exec i s = .next t) :
    t.activeIrqs = maskAfter s.activeIrqs (heardDuring i s) ∨
    (∃ b, i = .irqset b ∧ t.activeIrqs = maskAfter s.activeIrqs [.set b]) ∨
    (∃ b, i = .irqclr b ∧ t.activeIrqs = maskAfter s.activeIrqs [.clear b]) ∨
    (i = .reset ∧ t.activeIrqs = 0x00#8) ∨
    (∃ u, i = .restore u ∧ t.activeIrqs = u.activeIrqs) := by
  have hcalls : (s.afterCalls Config.respond (callsOf i s)).activeIrqs = maskAfter s.activeIrqs (heardDuring i s) :=
    afterCalls_activeIrqs _ _ s
  cases exec_next_closes h with
  | enablesStored | enablesDropped => exact .inl ((State.updateIrqLine_activeIrqs _).trans hcalls)
  | sourceSet => exact .inr (.inl ⟨_, rfl, State.runCallback_activeIrqs _ _⟩)
  | sourceCleared => exact .inr (.inr (.inl ⟨_, rfl, State.runCallback_activeIrqs _ _⟩))
  | poweredOn => exact .inr (.inr (.inr (.inl ⟨rfl, rfl⟩)))
  | installed => exact .inr (.inr (.inr (.inr ⟨_, rfl, rfl⟩)))
  | unchanged | replied | loggedRead | loggedWrite | unlocked | statusRead | captured => exact .inl hcalls

/-! ### One pending bit -/

/-- The mask of a source has that source's bit alone. -/
theorem getLsbD_one_shiftLeft (b c : SourceIndex) : (1#8 <<< c.toNat).getLsbD b.toNat = decide (b = c) := by
  revert b c
  decide

/-- A pending bit after a callback is as before, unless the callback names it. -/
theorem maskAfterOne_bit (a : Byte) (c : Callback) (b : SourceIndex) :
    (maskAfterOne a c).getLsbD b.toNat = a.getLsbD b.toNat ∨
    ((maskAfterOne a c).getLsbD b.toNat = true ∧ c = .set b) ∨
    ((maskAfterOne a c).getLsbD b.toNat = false ∧ c = .clear b) := by
  have hlt : b.toNat < 8 := b.isLt
  cases c with
  | set d =>
    rw [maskAfterOne, BitVec.getLsbD_or, getLsbD_one_shiftLeft]
    by_cases hbd : b = d
    · simp [hbd]
    · simp [hbd]
  | clear d =>
    rw [maskAfterOne, BitVec.getLsbD_and, BitVec.getLsbD_not, getLsbD_one_shiftLeft]
    by_cases hbd : b = d
    · simp [hbd]
    · simp [hbd, hlt]

/-- A pending bit after a list of callbacks is as before, unless a callback of the list left it so. -/
theorem maskAfter_bit (a : Byte) (cbs : List Callback) (b : SourceIndex) :
    (maskAfter a cbs).getLsbD b.toNat = a.getLsbD b.toNat ∨
    ((maskAfter a cbs).getLsbD b.toNat = true ∧ Callback.set b ∈ cbs) ∨
    ((maskAfter a cbs).getLsbD b.toNat = false ∧ Callback.clear b ∈ cbs) := by
  induction cbs generalizing a with
  | nil => exact .inl rfl
  | cons c cs ih =>
    rw [maskAfter]
    obtain hrest | ⟨hbit, hmem⟩ | ⟨hbit, hmem⟩ := ih (maskAfterOne a c)
    · rw [hrest]
      obtain hone | ⟨hbit, rfl⟩ | ⟨hbit, rfl⟩ := maskAfterOne_bit a c b
      · exact .inl hone
      · exact .inr (.inl ⟨hbit, List.mem_cons_self⟩)
      · exact .inr (.inr ⟨hbit, List.mem_cons_self⟩)
    · exact .inr (.inl ⟨hbit, List.mem_cons_of_mem c hmem⟩)
    · exact .inr (.inr ⟨hbit, List.mem_cons_of_mem c hmem⟩)

/-- A pending bit after an operation is as before, unless one of the causes of R11 left it so. -/
theorem exec_next_pendingBit {i : Instr} {s t : State} (h : exec i s = .next t) (b : SourceIndex) :
    t.activeIrqs.getLsbD b.toNat = s.activeIrqs.getLsbD b.toNat ∨
    (t.activeIrqs.getLsbD b.toNat = true ∧
      (i = .irqset b ∨ Callback.set b ∈ heardDuring i s)) ∨
    (t.activeIrqs.getLsbD b.toNat = false ∧
      (i = .irqclr b ∨ i = .reset ∨ Callback.clear b ∈ heardDuring i s)) ∨
    (∃ u, i = .restore u ∧ t.activeIrqs.getLsbD b.toNat = u.activeIrqs.getLsbD b.toNat) := by
  obtain ht | ⟨d, hi, ht⟩ | ⟨d, hi, ht⟩ | ⟨hi, ht⟩ | ⟨u, hi, ht⟩ := exec_next_activeIrqs h <;> rw [ht]
  · obtain hbit | ⟨hbit, hmem⟩ | ⟨hbit, hmem⟩ := maskAfter_bit s.activeIrqs (heardDuring i s) b
    · exact .inl hbit
    · exact .inr (.inl ⟨hbit, .inr hmem⟩)
    · exact .inr (.inr (.inl ⟨hbit, .inr (.inr hmem)⟩))
  · obtain hbit | ⟨hbit, hd⟩ | ⟨-, hd⟩ := maskAfterOne_bit s.activeIrqs (.set d) b
    · exact .inl hbit
    · cases hd
      exact .inr (.inl ⟨hbit, .inl hi⟩)
    · cases hd
  · obtain hbit | ⟨-, hd⟩ | ⟨hbit, hd⟩ := maskAfterOne_bit s.activeIrqs (.clear d) b
    · exact .inl hbit
    · cases hd
    · cases hd
      exact .inr (.inr (.inl ⟨hbit, .inl hi⟩))
  · exact .inr (.inr (.inl ⟨BitVec.getLsbD_zero, .inr (.inl hi)⟩))
  · exact .inr (.inr (.inr ⟨u, hi, rfl⟩))

end Sys2Proof.Machine

namespace Sys2Proof.Proofs

open Sys2Proof.Machine

/-- Settles O52: the calls are `callsOf`, the bits are those its callbacks leave, and a bit that differs has one of the causes
of `exec_next_pendingBit`. -/
theorem pendingBitsChangeOnlyBySources : Obligations.PendingBitsChangeOnlyBySources := by
  intro i s t h heard
  refine ⟨exec_next_collabCalls h, ?_, ?_, ?_⟩
  · intro hset hclr hreset hrestore
    obtain ht | ⟨b, hi, -⟩ | ⟨b, hi, -⟩ | ⟨hi, -⟩ | ⟨u, hi, -⟩ := exec_next_activeIrqs h
    · exact ht
    · exact absurd hi (hset b)
    · exact absurd hi (hclr b)
    · exact absurd hi hreset
    · exact absurd hi (hrestore u)
  · intro b hs ht
    obtain hbit | ⟨-, hcause⟩ | ⟨hbit, -⟩ | ⟨u, hi, hbit⟩ := exec_next_pendingBit h b
    · exact absurd (hs.symm.trans (hbit.symm.trans ht)) (by decide)
    · exact hcause.imp_right .inr
    · exact absurd (hbit.symm.trans ht) (by decide)
    · exact .inr (.inl ⟨u, hi, hbit.symm.trans ht⟩)
  · intro b hs ht
    obtain hbit | ⟨hbit, -⟩ | ⟨-, hcause⟩ | ⟨u, hi, hbit⟩ := exec_next_pendingBit h b
    · exact absurd (hs.symm.trans (hbit.symm.trans ht)) (by decide)
    · exact absurd (hbit.symm.trans ht) (by decide)
    · exact hcause.imp_right (.imp_right .inr)
    · exact .inr (.inr (.inl ⟨u, hi, hbit.symm.trans ht⟩))

end Sys2Proof.Proofs
end

section
/-!
PROOFS. The block's interfaces (spec/15_interfaces.md): what an operation's call trace holds besides its own collaborator calls
(`exec_next_trace`), that its own calls are changes followed at once by their updates (`callsOf_eachUpdated`), and the
set-then-check law.
-/
namespace Sys2Proof.Machine

/-! ### What a closing change adds to the trace (R47) -/

/-- A sink call of a callback is no collaborator call. -/
theorem collabCall?_of_mem_sinkCalls {line : Nat} {e a : Byte} {cbs : List Callback} {c : Call}
    (hc : c ∈ sinkCalls line e a cbs) : c.collabCall? = none :=
  List.filterMap_eq_nil_iff.mp (filterMap_sinkCalls line e a cbs) c hc

/-- A closing change adds entries to the trace that are no collaborator call. -/
theorem ClosesWith.trace {i : Instr} {x t : State} (h : ClosesWith i x t) :
    ∃ tail : List Call, (∀ c ∈ tail, c.collabCall? = none) ∧ t.trace = x.trace ++ tail := by
  cases h with
  | loggedRead off => exact ⟨[.logUnknownRead off], by simp [Call.collabCall?], rfl⟩
  | loggedWrite off v => exact ⟨[.logUnknownWrite off v], by simp [Call.collabCall?], rfl⟩
  | enablesStored | enablesDropped =>
    refine ⟨_, ?_, congrArg State.trace (updateIrqLine_eq _)⟩
    simp
  | sourceSet | sourceCleared =>
    exact ⟨_, fun c => collabCall?_of_mem_sinkCalls, congrArg State.trace (runCallback_eq _ _)⟩
  | unchanged | replied | unlocked | statusRead | poweredOn | captured | installed =>
    exact ⟨[], by simp, (List.append_nil _).symm⟩

/-- The calls an operation makes itself, each with the sink calls of its own callbacks (R41). -/
def ownExchange (i : Instr) (s : State) : Exchange :=
  exchange Config.respond s.params s.enabledIrqs (callsOf i s) { collab := s.collab, active := s.activeIrqs, calls := [] }

/-- An operation adds its own calls to the trace, and then entries that are no collaborator call. -/
theorem exec_next_trace {i : Instr} {s t : State} (h : exec i s = .next t) :
    ∃ tail : List Call, (∀ c ∈ tail, c.collabCall? = none) ∧ t.trace = s.trace ++ (ownExchange i s).calls ++ tail :=
  (exec_next_closes h).trace

/-- An event adds nothing to the trace: none makes an effectful call. -/
theorem applyEvent_trace (e : EnvEvent) (s : State) : (s.applyEvent e).trace = s.trace := by
  cases e with
  | collaborators k => rfl
  | warmReset =>
    rw [State.applyEvent]
    split <;> rfl
  | hostSync => rfl

/-! ### The discipline sees no sink call (R37) -/

@[simp] theorem isSink_collab (c : CollabCall) : (Call.collab c).isSink = false := rfl
@[simp] theorem isChange_update : (Call.collab .update).isChange = false := rfl
@[simp] theorem isUpdate_update : (Call.collab .update).isUpdate = true := rfl
@[simp] theorem isSink_sinkCall (line : Nat) (level : Bool) : (sinkCall line level).isSink = true := by
  cases level <;> rfl

/-- Callbacks cause sink calls alone. -/
theorem filter_not_isSink_sinkCalls (line : Nat) (e a : Byte) (cbs : List Callback) :
    (sinkCalls line e a cbs).filter (fun c => !c.isSink) = [] := by
  induction cbs generalizing a with
  | nil => rfl
  | cons c cs ih =>
    rw [sinkCalls]
    split
    · exact ih _
    · rw [List.filter_cons_of_neg (by simp), ih]

/-- Without its sink calls the trace of a sequence of collaborator calls is the sequence. -/
theorem filter_not_isSink_exchange (env : Environment) (p : Params) (e : Byte) (cs : List CollabCall) (x : Exchange) :
    (exchange env p e cs x).calls.filter (fun c => !c.isSink) =
      x.calls.filter (fun c => !c.isSink) ++ cs.map .collab := by
  induction cs generalizing x with
  | nil => simp [exchange]
  | cons c cs ih =>
    rw [exchange, ih, List.filter_append, List.filter_cons_of_pos rfl, filter_not_isSink_sinkCalls, List.append_assoc]
    rfl

/-- The discipline reads past sink calls: those of callbacks may stand between a change and its update. -/
theorem disciplined_filter_not_isSink (owed : Bool) (l : List Call) :
    disciplined owed (l.filter fun c => !c.isSink) = disciplined owed l := by
  induction l generalizing owed with
  | nil => rfl
  | cons c cs ih => cases hc : c.isSink <;> simp [disciplined, hc, ih]

/-- An entry that is no collaborator call is neither a change nor an update. -/
theorem not_change_not_update_of_collabCall? {c : Call} (hc : c.collabCall? = none) :
    c.isChange = false ∧ c.isUpdate = false := by
  cases c with
  | collab => cases hc
  | irqAssert | irqDeassert | logUnknownRead | logUnknownWrite => exact ⟨rfl, rfl⟩

/-- With no update owed, entries that are no collaborator call keep the discipline. -/
theorem disciplined_of_no_collabCall {l : List Call} (hl : ∀ c ∈ l, c.collabCall? = none) :
    disciplined false l = true := by
  induction l with
  | nil => rfl
  | cons c cs ih =>
    obtain ⟨hchange, hupdate⟩ := not_change_not_update_of_collabCall? (hl c List.mem_cons_self)
    have hcs := ih fun d hd => hl d (List.mem_cons_of_mem c hd)
    simp [disciplined, hchange, hupdate, hcs]

/-! ### The calls an operation makes itself (R37) -/

/-- A sequence of collaborator calls with `n` changes, each followed at once by its update; other calls stand alone. -/
inductive EachUpdated : Nat → List CollabCall → Prop where
  | nil : EachUpdated 0 []
  | forwarded {n : Nat} {cs : List CollabCall} {c : CollabCall} (hchange : (Call.collab c).isChange = false)
      (hupdate : (Call.collab c).isUpdate = false) (h : EachUpdated n cs) : EachUpdated n (c :: cs)
  | changed {n : Nat} {cs : List CollabCall} {c : CollabCall} (hchange : (Call.collab c).isChange = true)
      (h : EachUpdated n cs) : EachUpdated (n + 1) (c :: .update :: cs)

/-- The calls of every operation are so, with the number of changes of the table of R37. -/
theorem callsOf_eachUpdated (i : Instr) (s : State) : EachUpdated (busChanges i s) (callsOf i s) := by
  cases i with
  | wSelpulse => exact .changed rfl (.changed rfl .nil)
  | wCdcData | wIrqEnAck | wCdcReset => exact .changed rfl .nil
  | rCdcDataAuto =>
    rw [busChanges, callsOf]
    split
    · exact .changed rfl .nil
    · exact .nil
  | wAdpcm08 | wAdpcm09 | wAdpcm0A | wAdpcm0B | wAdpcm0C | wAdpcm0D | wAdpcm0E | wFader
  | rAdpcm09 | rAdpcm0A | rAdpcm0B | rAdpcm0C | rAdpcm0D | rAdpcm0E => exact .forwarded rfl rfl .nil
  | _ => exact .nil

/-- A change is no update. -/
theorem not_update_of_change {c : CollabCall} (hc : (Call.collab c).isChange = true) :
    (Call.collab c).isUpdate = false := by
  cases c with
  | update => cases hc
  | _ => rfl

/-- What follows a sequence in which every change has its update owes none. -/
theorem EachUpdated.disciplined_append {n : Nat} {cs : List CollabCall} (h : EachUpdated n cs) (l : List Call) :
    disciplined false (cs.map .collab ++ l) = disciplined false l := by
  induction h with
  | nil => rfl
  | forwarded hchange hupdate h ih => simpa [disciplined, hchange, hupdate] using ih
  | changed hchange h ih => simpa [disciplined, hchange, not_update_of_change hchange] using ih

/-- A call that is no change may be followed by anything. -/
theorem updatesAtOnce_cons {c : Call} (hc : c.isChange = false) (l : List Call) :
    updatesAtOnce (c :: l) = updatesAtOnce l := by
  cases l <;> simp [updatesAtOnce, hc]

/-- The very next call after each change is its update. -/
theorem EachUpdated.updatesAtOnce_map {n : Nat} {cs : List CollabCall} (h : EachUpdated n cs) :
    updatesAtOnce (cs.map .collab) = true := by
  induction h with
  | nil => rfl
  | forwarded hchange hupdate h ih => rwa [List.map_cons, updatesAtOnce_cons hchange]
  | changed hchange h ih =>
    rw [List.map_cons, List.map_cons, updatesAtOnce, updatesAtOnce_cons isChange_update, ih, isUpdate_update,
      Bool.or_true, Bool.and_true]

/-- There are as many changes, and as many updates, as counted. -/
theorem EachUpdated.countP_changes_updates {n : Nat} {cs : List CollabCall} (h : EachUpdated n cs) :
    (cs.map Call.collab).countP Call.isChange = n ∧ (cs.map Call.collab).countP Call.isUpdate = n := by
  induction h with
  | nil => exact ⟨rfl, rfl⟩
  | forwarded hchange hupdate h ih => simpa [List.countP_cons, hchange, hupdate] using ih
  | changed hchange h ih => simpa [List.countP_cons, hchange, not_update_of_change hchange] using ih

/-- The trace of an operation, without its sink calls: its own calls, then entries that are no collaborator call. -/
theorem exec_next_filter_not_isSink {i : Instr} {s t : State} (hs : s.trace = []) (h : exec i s = .next t) :
    ∃ tail : List Call, (∀ c ∈ tail, c.collabCall? = none) ∧
      (t.trace.filter fun c => !c.isSink) = (callsOf i s).map .collab ++ tail := by
  obtain ⟨tail, htail, htrace⟩ := exec_next_trace h
  refine ⟨tail.filter fun c => !c.isSink, fun c hc => htail c (List.mem_of_mem_filter hc), ?_⟩
  rw [htrace, hs, ownExchange]
  simp [filter_not_isSink_exchange]

/-- An operation begun with an empty trace keeps the discipline. -/
theorem exec_next_disciplined {i : Instr} {s t : State} (hs : s.trace = []) (h : exec i s = .next t) :
    disciplined false t.trace = true := by
  obtain ⟨tail, htail, htrace⟩ := exec_next_filter_not_isSink hs h
  rw [← disciplined_filter_not_isSink, htrace, (callsOf_eachUpdated i s).disciplined_append,
    disciplined_of_no_collabCall htail]

/-- The entry of a collaborator call. -/
theorem eq_collab_of_collabCall? {c : Call} {d : CollabCall} (hc : c.collabCall? = some d) : c = .collab d := by
  cases c <;> cases hc
  rfl

/-- What only collaborator calls can satisfy is counted on the collaborator calls of a trace. -/
theorem countP_collabCalls {q : Call → Bool} (hq : ∀ c : Call, c.collabCall? = none → q c = false) (l : List Call) :
    l.countP q = ((l.filterMap Call.collabCall?).map Call.collab).countP q := by
  induction l with
  | nil => rfl
  | cons c cs ih =>
    match hc : c.collabCall? with
    | none => rw [List.countP_cons_of_neg (Bool.eq_false_iff.mp (hq c hc)), List.filterMap_cons_none hc, ih]
    | some d =>
      rw [List.filterMap_cons_some hc, List.map_cons, eq_collab_of_collabCall? hc, List.countP_cons, List.countP_cons, ih]

/-- The changes and the updates of an operation begun with an empty trace are those of the table of R37. -/
theorem exec_next_countP {i : Instr} {s t : State} (hs : s.trace = []) (h : exec i s = .next t) :
    t.trace.countP Call.isChange = busChanges i s ∧ t.trace.countP Call.isUpdate = busChanges i s := by
  have hcalls : t.trace.filterMap Call.collabCall? = callsOf i s := by
    rw [exec_next_collabCalls h, hs]
    rfl
  rw [countP_collabCalls fun c hc => (not_change_not_update_of_collabCall? hc).1,
    countP_collabCalls fun c hc => (not_change_not_update_of_collabCall? hc).2, hcalls]
  exact (callsOf_eachUpdated i s).countP_changes_updates

/-! ### Set, then check (R39) -/

/-- After a call the collaborators are as they answered, with the line or the port set as the law demands: callbacks do not
touch them. -/
theorem call_collab (env : Environment) (c : CollabCall) (s : State) :
    (s.call env c).collab = (env s.collab c).collab.settle c := by
  rw [call_eq]
  rfl

/-! ### The enables and ACK (R104, R105) -/

/-- The write of 0x02 leaves the value's writable bits in the enables. -/
theorem writeEnables_enabledIrqs (env : Environment) (v : Byte) (s : State) :
    (s.writeEnables env v).enabledIrqs = v &&& irqWritableMask := by
  rw [State.writeEnables, State.updateIrqLine_enabledIrqs, State.withEnabled_enabledIrqs]

/-- The writable bits of a value beside its own bit 7 are its bits 7 to 2. -/
theorem enablesByte_written (v : Byte) : enablesByte (v &&& irqWritableMask) (v.getLsbD 7) = v &&& 0xFC#8 :=
  calc enablesByte (v &&& irqWritableMask) (v.getLsbD 7)
      = v &&& irqWritableMask ||| v &&& BitVec.twoPow 8 7 := by rw [BitVec.and_twoPow]; rfl
    _ = v &&& (irqWritableMask ||| BitVec.twoPow 8 7) := BitVec.and_or_distrib_left.symm
    _ = v &&& 0xFC#8 := rfl

end Sys2Proof.Machine

namespace Sys2Proof.Proofs

open Sys2Proof.Machine

/-- Settles O18: an operation's trace is its own calls with their callbacks' sink calls, then its closing entries; its own calls
put the update right after the change, and sink calls do not disturb the discipline. -/
theorem everyTraceKeepsTheUpdateDiscipline : Obligations.EveryTraceKeepsTheUpdateDiscipline := by
  intro s t h
  obtain ⟨hbox, rfl⟩ | ⟨e, rest, hbox, rfl⟩ | ⟨x, i, rest, hbox, hdec, hexec⟩ := step_next_cases h
  · exact ⟨rfl, fun x i rest hop => by cases hbox.symm.trans hop⟩
  · refine ⟨?_, fun x i rest' hop => by cases hbox.symm.trans hop⟩
    rw [applyEvent_trace]
    rfl
  · refine ⟨exec_next_disciplined rfl hexec, fun x' i' rest' hop hdec' => ?_⟩
    cases hbox.symm.trans hop
    cases hdec.symm.trans hdec'
    obtain ⟨hchanges, hupdates⟩ := exec_next_countP rfl hexec
    exact ⟨hchanges, hupdates, (callsOf_eachUpdated i s).updatesAtOnce_map, exec_next_trace hexec⟩

/-- Settles O47: the write leaves `v & 0x7C` in the enables, and ACK supplies bit 7. -/
theorem enablesReadBackUnderAckHeld : Obligations.EnablesReadBackUnderAckHeld := by
  intro v s t k hwrite hack
  cases hwrite
  have hbyte : enablesByte (s.writeEnables Config.respond v).enabledIrqs k.adapter.ack = v &&& 0xFC#8 := by
    rw [writeEnables_enabledIrqs, hack, enablesByte_written]
  rw [← hbyte]
  rfl

/-- Settles O57: the law is imposed on the collaborators' answer, and the callbacks that then run do not touch it. -/
theorem setThenCheckLaw : Obligations.SetThenCheckLaw := by
  intro env s
  constructor
  · intro l v
    rw [call_collab, checkSignal_settle]
  · intro d
    rw [call_collab]
    rfl

/-- Settles O5: an idle step only begins, and each event is applied to the begun state. -/
theorem stepsWithoutAnOperation : Obligations.StepsWithoutAnOperation := by
  refine ⟨fun s hs => ?_, fun s k rest hs => step_event hs, fun s rest hs => ⟨fun hp => ?_, fun hp => ?_⟩,
    fun s rest hs => step_event hs⟩
  · rw [step_idle hs, State.begin, ← hs]
    rfl
  · rw [step_event hs]
    exact congrArg Host.Outcome.next (if_neg (Bool.eq_false_iff.mp hp))
  · rw [step_event hs]
    exact congrArg Host.Outcome.next (if_pos hp)

end Sys2Proof.Proofs
end

section
/-!
PROOFS. The register window (spec/20_memory.md): the offset of an address and its images (`offsetOf_add_image`), that the
encoder recovers all a decoded BUS word keeps (`encode_decodeBus`), so that the offset alone decides how an address decodes,
and two status reads in succession.
-/
namespace Sys2Proof.Machine

/-! ### The offset of an address (R51) -/

/-- The offset is the address modulo the size of the window. -/
theorem offsetOf_toNat (a : Address) : (offsetOf a).toNat = a.toNat % 0x400 := by
  rw [offsetOf, BitVec.extractLsb'_toNat, Nat.shiftRight_zero]

/-- The mask keeps the address modulo the size of the window. -/
theorem and_windowMask_toNat (a : Address) : (a &&& 0x3FF#16).toNat = a.toNat % 0x400 := by
  rw [BitVec.toNat_and]
  exact Nat.and_two_pow_sub_one_eq_mod a.toNat 10

/-- Every image of an address has its offset. -/
theorem offsetOf_add_image (a : Address) (k : Nat) : offsetOf (a + BitVec.ofNat 16 (0x400 * k)) = offsetOf a := by
  apply BitVec.eq_of_toNat_eq
  rw [offsetOf_toNat, offsetOf_toNat, BitVec.toNat_add, BitVec.toNat_ofNat]
  omega

/-! ### What a decoded BUS word keeps (R71, R76) -/

/-- The encoder gives back the offset and the value the decoder kept of a write. -/
theorem encode_decodeWrite (off : Offset) (v : Byte) : encode (decodeWrite off v) = encodeWrite off v := by
  have hrow (c : Offset) : (if off = c then encodeWrite c v else encodeWrite off v) = encodeWrite off v :=
    ite_eq_right_iff.mpr fun h => by rw [h]
  simp only [decodeWrite, apply_ite encode]
  simp only [encode, ite_self, hrow]

/-- The encoder gives back the offset the decoder kept of a read. -/
theorem encode_decodeRead (off : Offset) : encode (decodeRead off) = encodeRead off := by
  have hrow (c : Offset) : (if off = c then encodeRead c else encodeRead off) = encodeRead off :=
    ite_eq_right_iff.mpr fun h => by rw [h]
  simp only [decodeRead, apply_ite encode]
  simp only [encode, ite_self, hrow]

/-- Decoding a BUS word and encoding the operation keeps all of the word but address bits 15 to 10 and the value of a read. -/
theorem encode_decodeBus (t : BitVec 25) :
    encode (decodeBus t) =
      .bus (busWord (busIsWrite t) (addressOf (offsetOf (busAddress t))) (if busIsWrite t then busValue t else 0x00#8)) := by
  rw [decodeBus]
  cases busIsWrite t with
  | false => exact encode_decodeRead _
  | true => exact encode_decodeWrite _ _

/-- Words of one direction and value decode alike exactly when their addresses have one offset: the decoder looks at no
other bit of the address, and encoding the operation again recovers the offset. -/
theorem decodeBus_eq_iff (w : Bool) (a b : Address) (v : Byte) :
    decodeBus (busWord w a v) = decodeBus (busWord w b v) ↔ offsetOf a = offsetOf b := by
  constructor
  · intro h
    have hwords := congrArg encode h
    rw [encode_decodeBus, encode_decodeBus] at hwords
    have hoffsets := congrArg (fun t => offsetOf (busAddress t)) (Transaction.bus.inj hwords)
    simpa only [busAddress_busWord, offsetOf_addressOf] using hoffsets
  · intro h
    simp only [decodeBus, busIsWrite_busWord, busAddress_busWord, busValue_busWord, h]

/-! ### The width of an access (R54) -/

/-- A read of any other width than one byte is no operation. -/
theorem decode_memRead_wide (a : Address) {n : Nat} (hn : n ≠ 1) : decode (.memRead a n) = .error (.accessWidth n) :=
  if_neg hn

/-- A write of any other width than one byte is no operation. -/
theorem decode_memWrite_wide (a : Address) {n : Nat} (v : Nat) (hn : n ≠ 1) :
    decode (.memWrite a n v) = .error (.accessWidth n) :=
  if_neg hn

/-! ### The status byte (R107) -/

/-- Between bytes with no bit in common, disjunction is addition of bits, so the first cancels. -/
theorem xor_or_of_disjoint {a b : Byte} (h : a &&& b = 0x00#8) : a ^^^ (a ||| b) = b := by
  ext i hi
  have hbit : (a[i] && b[i]) = false := by simpa using congrArg (fun x : Byte => x[i]) h
  cases ha : a[i] <;> simp_all

/-- With source 1 not pending, the status bytes of the two flip-flop states differ in bit 1 alone. -/
theorem statusByte_xor_not {a : Byte} (h : a.getLsbD 1 = false) (right : Bool) :
    statusByte a right ^^^ statusByte a (!right) = 0x02#8 := by
  have hdisjoint : a &&& 0x02#8 = 0x00#8 := (BitVec.and_twoPow a 1).trans (by rw [h]; rfl)
  have hxor : a ^^^ (a ||| 0x02#8) = 0x02#8 := xor_or_of_disjoint hdisjoint
  cases right with
  | false => simpa [statusByte, BitVec.xor_comm] using hxor
  | true => simpa [statusByte] using hxor

end Sys2Proof.Machine

namespace Sys2Proof.Proofs

open Sys2Proof.Machine

/-- Settles O10: an image has the same residue, and the offset is all of the address that an operation keeps. -/
theorem addressImagesDecodeAlike : Obligations.AddressImagesDecodeAlike := by
  refine ⟨fun a => (offsetOf_toNat a).trans (and_windowMask_toNat a).symm, fun w a k v => ?_, fun w a b v => ?_⟩
  · exact congrArg Except.ok ((decodeBus_eq_iff w _ a v).mpr (offsetOf_add_image a k))
  · rw [decode, decode, Except.ok.injEq]
    exact decodeBus_eq_iff w a b v

/-- Settles O2: other widths are decode errors, which a step refuses; width one is decoded as the BUS word. -/
theorem accessWidthOtherThanOneIsRefused : Obligations.AccessWidthOtherThanOneIsRefused :=
  ⟨fun _ a _ v _ hn =>
    ⟨fun hs => step_no_op hs (decode_memRead_wide a hn), fun hs => step_no_op hs (decode_memWrite_wide a v hn)⟩,
    fun _ _ => ⟨rfl, rfl⟩⟩

/-- Settles O48: each read toggles the flip-flop and returns the byte of its new state. -/
theorem twoStatusReadsDifferInBitOne : Obligations.TwoStatusReadsDifferInBitOne := by
  intro s hs
  refine ⟨s.readStatus, s.readStatus.readStatus, _, _, rfl, rfl, rfl, rfl, ?_, rfl, ?_⟩
  · exact statusByte_xor_not hs (!s.readRightChannel)
  · exact Bool.not_not s.readRightChannel

end Sys2Proof.Proofs
end

section
/-!
PROOFS. The words of the three ports (spec/30_encoding.md): encoding and then decoding a well-formed operation gives it back
(`decode_encode`), every BUS word decodes to a well-formed operation (`decodeBus_wellFormed`), and what a step refuses.
-/
namespace Sys2Proof.Machine

/-! ### Offsets in a range (R76) -/

/-- A range holds the offsets between its ends. -/
theorem within_iff {off lo hi : Offset} : Offset.within off lo hi = true ↔ lo ≤ off ∧ off ≤ hi := by
  simp [Offset.within]

/-- An offset in a range is none outside it. -/
theorem ne_of_within {off lo hi c : Offset} (h : Offset.within off lo hi = true) (hc : c < lo ∨ hi < c) : off ≠ c := by
  obtain ⟨hlo, hhi⟩ := within_iff.mp h
  rintro rfl
  exact hc.elim (BitVec.not_lt.mpr hlo) (BitVec.not_lt.mpr hhi)

/-- An offset in a range is above every bound below the range. -/
theorem not_le_of_within {off lo hi c : Offset} (h : Offset.within off lo hi = true) (hc : c < lo) : ¬ off ≤ c :=
  fun hle => BitVec.not_lt.mpr (BitVec.le_trans (within_iff.mp h).1 hle) hc

/-! ### Decoding a canonical word -/

/-- The canonical word of a write decodes by its offset and its value. -/
theorem decode_encodeWrite (off : Offset) (v : Byte) : decode (encodeWrite off v) = .ok (decodeWrite off v) := by
  simp [encodeWrite, decode, decodeBus]

/-- The canonical word of a read decodes by its offset. -/
theorem decode_encodeRead (off : Offset) : decode (encodeRead off) = .ok (decodeRead off) := by
  simp [encodeRead, decode, decodeBus]

/-- The canonical word of a SRC operation decodes by its `SET` bit and its index. -/
theorem decodeSrc_srcWord (set : Bool) (b : SourceIndex) :
    decodeSrc (srcWord set b) = if set then .irqset b else .irqclr b := by
  rw [decodeSrc, srcIsSet_srcWord, srcIndex_srcWord]

/-- Decoding the word of a well-formed operation gives the operation back: a register's offset passes only its own test, and
an offset in a range passes the test of the range's upper end and none before it. -/
theorem decode_encode {i : Instr} (h : i.wellFormed = true) : decode (encode i) = .ok i := by
  cases i with
  | wUnknown010_01F off v | wUnknown020_03F off v | wUnknown040_07F off v | wUnknown080_0BF off v
  | wUnknown0C4_0C7 off v | wUnknown0C8_0CF off v | wUnknown0D0_0DF off v | wUnknown0E0_0FF off v
  | wUnknown100_1FF off v | wUnknown200_3FF off v =>
    rw [Instr.wellFormed] at h
    rw [encode, decode_encodeWrite]
    simp (disch := decide) only [decodeWrite, ne_of_within h, not_le_of_within h, (within_iff.mp h).2, if_false, if_true]
  | rUnknown010_01F off | rUnknown020_03F off | rUnknown040_07F off | rUnknown080_0BF off
  | rUnknown0C4_0C7 off | rUnknown0C8_0CF off | rUnknown0D0_0DF off | rUnknown0E0_0FF off
  | rUnknown100_1FF off | rUnknown200_3FF off =>
    rw [Instr.wellFormed] at h
    rw [encode, decode_encodeRead]
    simp (disch := decide) only [decodeRead, ne_of_within h, not_le_of_within h, (within_iff.mp h).2, if_false, if_true]
  | wSelpulse | wCdcData | wIrqEnAck | wIrqStat | wCdcReset | wSampleLo | wSampleHi | wBramLock | wAdpcm08 | wAdpcm09
  | wAdpcm0A | wAdpcm0B | wAdpcm0C | wAdpcm0D | wAdpcm0E | wFader | wUnknownC0 | wUnknownC1 | wUnknownC2
  | wUnknownC3 => exact decode_encodeWrite _ _
  | rCdcStat | rCdcData | rIrqEnAck | rIrqStat | rCdcReset | rSampleLo | rSampleHi | rBramLock | rCdcDataAuto | rAdpcm09
  | rAdpcm0A | rAdpcm0B | rAdpcm0C | rAdpcm0D | rAdpcm0E | rUnknown0F | rId0 | rId1 | rId2 | rId3 =>
    exact decode_encodeRead _
  | irqset b => exact congrArg Except.ok (decodeSrc_srcWord true b)
  | irqclr b => exact congrArg Except.ok (decodeSrc_srcWord false b)
  | reset | snapshot | restore => rfl

/-! ### Every offset selects a well-formed operation -/

/-- A test answers a well-formed operation when both its branches do. -/
theorem wellFormed_ite {p : Prop} [Decidable p] {i j : Instr} (hi : p → i.wellFormed = true)
    (hj : ¬ p → j.wellFormed = true) : (if p then i else j).wellFormed = true := by
  split
  case isTrue h => exact hi h
  case isFalse h => exact hj h

/-- The tests before a range's test of its upper end leave no offset below the range. -/
theorem decodeWrite_wellFormed (off : Offset) (v : Byte) : (decodeWrite off v).wellFormed = true := by
  unfold decodeWrite
  iterate 20 refine wellFormed_ite (fun _ => rfl) fun _ => ?_
  iterate 9 refine wellFormed_ite (fun hhi => within_iff.mpr ⟨by bv_omega, hhi⟩) fun _ => ?_
  exact within_iff.mpr ⟨by bv_omega, by bv_omega⟩

/-- A read is tested as a write is, and its ranges are those of the writes. -/
theorem decodeRead_wellFormed (off : Offset) : (decodeRead off).wellFormed = true := by
  rw [← decodeWrite_wellFormed off 0x00#8]
  simp only [decodeRead, decodeWrite, apply_ite Instr.wellFormed]
  rfl

/-- Every BUS word decodes to a well-formed operation. -/
theorem decodeBus_wellFormed (t : BitVec 25) : (decodeBus t).wellFormed = true := by
  rw [decodeBus]
  split
  · exact decodeWrite_wellFormed _ _
  · exact decodeRead_wellFormed _

/-! ### An index outside SOURCES (R32) -/

/-- Setting or clearing a source whose index is not in `SOURCES` is refused. -/
theorem exec_decodeSrc_outside {q : BitVec 4} {s : State} (h : s.params.admits (srcIndex q) = false) :
    exec (decodeSrc q) s = .refused (.sourceOutsideSources (srcIndex q)) := by
  rw [decodeSrc]
  split
  case isTrue => exact if_neg (Bool.eq_false_iff.mp h)
  case isFalse => exact if_neg (Bool.eq_false_iff.mp h)

end Sys2Proof.Machine

namespace Sys2Proof.Proofs

open Sys2Proof.Machine

/-- Settles O7: `decode_encode`, by cases on the operation. -/
theorem encodedOperationsDecode : Obligations.EncodedOperationsDecode :=
  fun _ => decode_encode

/-- Settles O8: the operation the decoder gives is well-formed, and the encoder gives back all that it keeps. -/
theorem busWordsReencodeCanonically : Obligations.BusWordsReencodeCanonically :=
  fun t => ⟨decodeBus t, rfl, decodeBus_wellFormed t, encode_decodeBus t⟩

/-- Settles O3: the decoder reads just these fields, and both operations check the index. -/
theorem srcWordsDecodeOrAreRefused : Obligations.SrcWordsDecodeOrAreRefused :=
  fun _ => ⟨rfl, fun _ _ hs hout => (step_op hs rfl).trans (exec_decodeSrc_outside hout)⟩

/-- Settles O4: the three words decode, SNAPSHOT returns the captured tuple, and the fourth word is no operation. -/
theorem hostWordsDecodeOrAreRefused : Obligations.HostWordsDecodeOrAreRefused :=
  fun _ => ⟨rfl, rfl, rfl, fun s => ⟨s.capture, rfl⟩, fun _ _ hs => step_no_op hs rfl⟩

/-- Settles O11: each word is decoded by evaluation. -/
theorem writtenWordsDecode : Obligations.WrittenWordsDecode :=
  ⟨rfl, rfl, rfl, rfl, rfl, rfl, rfl, rfl, fun _ => rfl⟩

end Sys2Proof.Proofs
end

section
/-!
PROOFS. The BUS rows of the opcode table (spec/30_encoding.md R76, R83). That some row covers a word is
`EncodeMatchesRow` of the operation it decodes to; that no second one does, a check of the rows two by two
(`busRows_clash`).
-/
namespace Sys2Proof

/-- The bits of a BUS word that a row may test: `W` and the offset. -/
def rowFields : BitVec 25 := 0x103FF00#25

/-- Two rows ask for different levels of a bit that both test. -/
def BusRow.clashes (r u : BusRow) : Bool := (r.match25 ^^^ u.match25) &&& r.mask25 &&& u.mask25 != 0#25

namespace Machine

/-! ### The bits a row tests -/

/-- The offset stands in bits 17 to 8 of a word and `W` in bit 24. -/
theorem getLsbD_rowFields : ∀ i < 25, rowFields.getLsbD i = decide (8 ≤ i ∧ i < 18 ∨ i = 24) := by decide

/-- The word written again from `W`, the offset and any value agrees with the word in the bits a row may test. -/
theorem canonical_and_rowFields (t : BitVec 25) (v : Byte) :
    busWord (busIsWrite t) (addressOf (offsetOf (busAddress t))) v &&& rowFields = t &&& rowFields := by
  conv_rhs => rw [← busWord_fields t]
  ext i hi
  rw [← BitVec.getLsbD_eq_getElem, ← BitVec.getLsbD_eq_getElem, BitVec.getLsbD_and, BitVec.getLsbD_and,
    getLsbD_rowFields i hi, getLsbD_busWord, getLsbD_busWord]
  by_cases hoff : 8 ≤ i ∧ i < 18
  · have h8 : ¬ i < 8 := by omega
    have h10 : i - 8 < 10 := by omega
    simp only [h8, getLsbD_addressOf, offsetOf, BitVec.getLsbD_extractLsb', h10, if_true, if_false, decide_true,
      Bool.true_and, Nat.zero_add]
  · by_cases h24 : i = 24
    · subst h24
      rfl
    · simp [hoff, h24]

/-- No row tests another bit. -/
theorem busRows_mask : ∀ r ∈ busRows, rowFields &&& r.mask25 = r.mask25 := by decide

/-- A row covers a word when it covers the word written again from `W`, the offset and any value. -/
theorem covers_canonical {r : BusRow} (hr : r ∈ busRows) (t : BitVec 25) (v : Byte) :
    r.covers (busWord (busIsWrite t) (addressOf (offsetOf (busAddress t))) v) = r.covers t := by
  rw [BusRow.covers, BusRow.covers, ← busRows_mask r hr, ← BitVec.and_assoc, ← BitVec.and_assoc, canonical_and_rowFields]

/-! ### At most one row covers a word -/

/-- Any two rows of the table clash. -/
theorem busRows_clash : busRows.Pairwise fun r u => r.clashes u = true := by decide

/-- No word lies in two rows that clash: the bit both test would have both levels. -/
theorem not_covers_of_clashes {r u : BusRow} (h : r.clashes u = true) {t : BitVec 25} (hr : r.covers t = true) :
    ¬ u.covers t = true := by
  intro hu
  rw [BusRow.covers, beq_iff_eq] at hr hu
  rw [BusRow.clashes, ← hr, ← hu, bne_iff_ne] at h
  apply h
  ext i hi
  simp only [BitVec.getElem_and, BitVec.getElem_xor, BitVec.getElem_zero]
  cases t[i] <;> cases r.mask25[i] <;> cases u.mask25[i] <;> rfl

/-- Where no two elements pass a test, the one that does is all the filter leaves. -/
theorem filter_eq_singleton {α : Type} {p : α → Bool} {a : α} {l : List α}
    (hl : l.Pairwise fun x y => p x = true → ¬ p y = true) (ha : a ∈ l) (hp : p a = true) : l.filter p = [a] := by
  induction l with
  | nil => cases ha
  | cons x xs ih =>
    obtain ⟨hx, hxs⟩ := List.pairwise_cons.mp hl
    cases ha with
    | head => rw [List.filter_cons_of_pos hp, List.filter_eq_nil_iff.mpr fun y hy => hx y hy hp]
    | tail _ ha => rw [List.filter_cons_of_neg fun hpx => hx a ha hpx hp, ih hxs ha]

/-! ### At least one row covers a word -/

open Sys2Proof.Laws.EncodeMatchesRow in
/-- The BUS word of a well-formed operation lies in the row of its mnemonic. -/
theorem encode_matches_row : ∀ i : Instr, Statement i
  | .wSelpulse _ => wSelpulse _ | .wCdcData _ => wCdcData _ | .wIrqEnAck _ => wIrqEnAck _ | .wIrqStat _ => wIrqStat _
  | .wCdcReset _ => wCdcReset _ | .wSampleLo _ => wSampleLo _ | .wSampleHi _ => wSampleHi _
  | .wBramLock _ => wBramLock _ | .wAdpcm08 _ => wAdpcm08 _ | .wAdpcm09 _ => wAdpcm09 _ | .wAdpcm0A _ => wAdpcm0A _
  | .wAdpcm0B _ => wAdpcm0B _ | .wAdpcm0C _ => wAdpcm0C _ | .wAdpcm0D _ => wAdpcm0D _ | .wAdpcm0E _ => wAdpcm0E _
  | .wFader _ => wFader _ | .wUnknownC0 _ => wUnknownC0 _ | .wUnknownC1 _ => wUnknownC1 _
  | .wUnknownC2 _ => wUnknownC2 _ | .wUnknownC3 _ => wUnknownC3 _ | .wUnknown010_01F _ _ => wUnknown010_01F _ _
  | .wUnknown020_03F _ _ => wUnknown020_03F _ _ | .wUnknown040_07F _ _ => wUnknown040_07F _ _
  | .wUnknown080_0BF _ _ => wUnknown080_0BF _ _ | .wUnknown0C4_0C7 _ _ => wUnknown0C4_0C7 _ _
  | .wUnknown0C8_0CF _ _ => wUnknown0C8_0CF _ _ | .wUnknown0D0_0DF _ _ => wUnknown0D0_0DF _ _
  | .wUnknown0E0_0FF _ _ => wUnknown0E0_0FF _ _ | .wUnknown100_1FF _ _ => wUnknown100_1FF _ _
  | .wUnknown200_3FF _ _ => wUnknown200_3FF _ _ | .rCdcStat => rCdcStat | .rCdcData => rCdcData
  | .rIrqEnAck => rIrqEnAck | .rIrqStat => rIrqStat | .rCdcReset => rCdcReset | .rSampleLo => rSampleLo
  | .rSampleHi => rSampleHi | .rBramLock => rBramLock | .rCdcDataAuto => rCdcDataAuto | .rAdpcm09 => rAdpcm09
  | .rAdpcm0A => rAdpcm0A | .rAdpcm0B => rAdpcm0B | .rAdpcm0C => rAdpcm0C | .rAdpcm0D => rAdpcm0D
  | .rAdpcm0E => rAdpcm0E | .rUnknown0F => rUnknown0F | .rId0 => rId0 | .rId1 => rId1 | .rId2 => rId2 | .rId3 => rId3
  | .rUnknown010_01F _ => rUnknown010_01F _ | .rUnknown020_03F _ => rUnknown020_03F _
  | .rUnknown040_07F _ => rUnknown040_07F _ | .rUnknown080_0BF _ => rUnknown080_0BF _
  | .rUnknown0C4_0C7 _ => rUnknown0C4_0C7 _ | .rUnknown0C8_0CF _ => rUnknown0C8_0CF _
  | .rUnknown0D0_0DF _ => rUnknown0D0_0DF _ | .rUnknown0E0_0FF _ => rUnknown0E0_0FF _
  | .rUnknown100_1FF _ => rUnknown100_1FF _ | .rUnknown200_3FF _ => rUnknown200_3FF _ | .irqset _ => irqset _
  | .irqclr _ => irqclr _ | .reset => reset | .snapshot => snapshot | .restore _ => restore _

/-- The rows that cover a BUS word are one row, with the mnemonic of the operation the word decodes to. -/
theorem mnemonics_of_covering_rows (t : BitVec 25) :
    (busRows.filter fun r => r.covers t).map (fun r => r.mnemonic) = [(decodeBus t).mnemonic] := by
  obtain ⟨r, hr, hname, hcovers⟩ := encode_matches_row (decodeBus t) (decodeBus_wellFormed t) _ (encode_decodeBus t)
  rw [covers_canonical hr] at hcovers
  rw [filter_eq_singleton (busRows_clash.imp fun h => not_covers_of_clashes h) hr hcovers, List.map_singleton, hname]

end Machine

end Sys2Proof

namespace Sys2Proof.Proofs

open Sys2Proof.Machine

/-- Settles O9: the covering row is that of the decoded operation, and the decoder reads just `W`, the offset and the value. -/
theorem everyBusWordMatchesOneRow : Obligations.EveryBusWordMatchesOneRow := by
  refine ⟨fun t => ⟨decodeBus t, rfl, mnemonics_of_covering_rows t⟩, fun t u hw hoff hv => ?_⟩
  rw [decode, decode, decodeBus, decodeBus, hw, hoff, hv]

end Sys2Proof.Proofs
end

section
/-!
PROOFS. The text form (spec/30_encoding.md R82): each line is its words with one space between them, the reader cuts it into
these words again (`textWords_intercalate`), and the words read back as the transaction.
-/
namespace Sys2Proof.Machine

/-! ### Hexadecimal digits -/

/-- A digit is read as the number it was written for. -/
theorem hexValue_digit (n : Nat) : hexValue (hexDigits.getD (n % 16) '0') = some (n % 16) := by
  have hall : ∀ d < 16, hexValue (hexDigits.getD d '0') = some d := by decide
  exact hall _ (Nat.mod_lt _ (by decide))

/-- A digit more is read last. -/
theorem readHex_concat (count acc : Nat) (cs : List Char) (c : Char) :
    readHex (count + 1) acc (cs ++ [c]) =
      (readHex count acc cs).bind fun n => (hexValue c).map fun d => 16 * n + d := by
  induction count generalizing acc cs with
  | zero =>
    cases cs with
    | nil => cases h : hexValue c <;> simp [readHex, h]
    | cons x xs =>
      rw [List.cons_append, readHex, readHex]
      cases hexValue x with
      | none => rfl
      | some d => cases xs <;> rfl
  | succ count ih =>
    cases cs with
    | nil => cases h : hexValue c <;> simp [readHex, h]
    | cons x xs =>
      rw [List.cons_append, readHex, readHex]
      cases hexValue x with
      | none => rfl
      | some d => exact ih _ _

/-- A number written with enough digits is read back. -/
theorem readHex_hexText {count n : Nat} (h : n < 16 ^ count) : readHex count 0 (hexText count n) = some n := by
  induction count generalizing n with
  | zero =>
    obtain rfl : n = 0 := by simpa using h
    rfl
  | succ count ih =>
    have hrest : n / 16 < 16 ^ count := Nat.div_lt_of_lt_mul (by rwa [Nat.mul_comm, ← Nat.pow_succ])
    rw [hexText, readHex_concat, ih hrest, Option.bind_some, hexValue_digit, Option.map_some, Nat.div_add_mod]

/-! ### The words of a line -/

/-- A word of a line: not empty, and without a space and without a comment. -/
def IsWord (w : List Char) : Prop := w ≠ [] ∧ ∀ c ∈ w, c ≠ ';' ∧ c ≠ ' '

/-- The characters of a word are added to the word being read. -/
theorem textWords_append {l : List Char} (hl : ∀ c ∈ l, c ≠ ';' ∧ c ≠ ' ') (w rest : List Char) :
    textWords w (l ++ rest) = textWords (w ++ l) rest := by
  induction l generalizing w with
  | nil => rw [List.nil_append, List.append_nil]
  | cons c cs ih =>
    obtain ⟨⟨hsemi, hspace⟩, hcs⟩ := List.forall_mem_cons.mp hl
    rw [List.cons_append, textWords, if_neg hsemi, if_neg hspace, ih hcs, List.append_assoc, List.singleton_append]

/-- A space ends a word. -/
theorem textWords_space {w : List Char} (hw : IsWord w) (rest : List Char) :
    textWords [] (w ++ ' ' :: rest) = w :: textWords [] rest := by
  rw [textWords_append hw.2, List.nil_append, textWords, if_neg (by decide), if_pos rfl, if_neg hw.1]

/-- The end of the line ends a word. -/
theorem textWords_end {w : List Char} (hw : IsWord w) : textWords [] w = [w] := by
  have h := textWords_append hw.2 [] []
  rwa [List.append_nil, List.nil_append, textWords, if_neg hw.1] at h

/-- A digit is neither a space nor a comment. -/
theorem hexDigit_ne (n : Nat) : hexDigits.getD (n % 16) '0' ≠ ';' ∧ hexDigits.getD (n % 16) '0' ≠ ' ' := by
  have hall : ∀ d < 16, hexDigits.getD d '0' ≠ ';' ∧ hexDigits.getD d '0' ≠ ' ' := by decide
  exact hall _ (Nat.mod_lt _ (by decide))

/-- Digits are neither spaces nor comments. -/
theorem hexText_chars (count n : Nat) : ∀ c ∈ hexText count n, c ≠ ';' ∧ c ≠ ' ' := by
  induction count generalizing n with
  | zero => exact List.forall_mem_nil _
  | succ count ih => exact List.forall_mem_append.mpr ⟨ih _, List.forall_mem_singleton.mpr (hexDigit_ne n)⟩

/-- A number of at least one digit is a word. -/
theorem isWord_hexText (count n : Nat) : IsWord (hexText (count + 1) n) :=
  ⟨List.append_ne_nil_of_right_ne_nil _ (List.cons_ne_nil _ _), hexText_chars _ n⟩

/-- A flag is a word. -/
theorem isWord_flagText (b : Bool) : IsWord (flagText b) := by
  cases b <;> simp [IsWord, flagText]

/-- The words that name an operation. -/
theorem isWord_names :
    IsWord ['R'] ∧ IsWord ['W'] ∧ IsWord ['S', 'E', 'T'] ∧ IsWord ['C', 'L', 'R'] ∧
      IsWord ['R', 'E', 'S', 'T', 'O', 'R', 'E'] := by
  simp [IsWord]

/-- The words of a line written with one space between them. -/
theorem textWords_intercalate {ws : List (List Char)} (h : ∀ w ∈ ws, IsWord w) :
    textWords [] ([' '].intercalate ws) = ws := by
  induction ws with
  | nil => rfl
  | cons w ws ih =>
    obtain ⟨hw, hws⟩ := List.forall_mem_cons.mp h
    cases ws with
    | nil => simpa using textWords_end hw
    | cons u us =>
      rw [List.intercalate_cons_cons, List.append_assoc, List.singleton_append, textWords_space hw, ih hws]

/-- A transaction is read back when its line is made of words that read as it. -/
theorem textOf_bind_readText {x : Transaction} {ws : List (List Char)} (htext : textOf x = some ([' '].intercalate ws))
    (hws : ∀ w ∈ ws, IsWord w) (hread : readWords ws = some x) : (textOf x).bind readText = some x := by
  rw [htext, Option.bind_some, readText, textWords_intercalate hws, hread]

/-! ### The operands of a line -/

/-- A byte is read back from its two digits. -/
theorem readHex_byte (b : Byte) : readHex 2 0 (hexText 2 b.toNat) = some b.toNat := readHex_hexText b.isLt

/-- An address is read back from its four digits. -/
theorem readHex_address (a : Address) : readHex 4 0 (hexText 4 a.toNat) = some a.toNat := readHex_hexText a.isLt

/-- A source index is read back from its digit. -/
theorem readIndex_hexText (b : SourceIndex) : readIndex (hexText 1 b.toNat) = some b := by
  rw [readIndex, readHex_hexText (Nat.lt_trans b.isLt (by decide))]
  exact (if_pos b.isLt).trans (congrArg some (BitVec.ofNat_toNat ..))

/-- A flag is read back. -/
theorem readFlag_flagText (b : Bool) : readFlag (flagText b) = some b := by
  cases b <;> rfl

/-! ### The lines -/

/-- The line of a read, whose value field is zero, is read back. -/
theorem readText_textOf_read (a : Address) :
    (textOf (.bus (busWord false a 0x00#8))).bind readText = some (.bus (busWord false a 0x00#8)) := by
  apply textOf_bind_readText (ws := [['R'], hexText 4 a.toNat])
  · simp [textOf, List.intercalate]
  · simp [isWord_names, isWord_hexText]
  · simp [readWords, readHex_address]

/-- The line of a write is read back. -/
theorem readText_textOf_write (a : Address) (v : Byte) :
    (textOf (.bus (busWord true a v))).bind readText = some (.bus (busWord true a v)) := by
  apply textOf_bind_readText (ws := [['W'], hexText 4 a.toNat, hexText 2 v.toNat])
  · simp [textOf, List.intercalate]
  · simp [isWord_names, isWord_hexText]
  · simp [readWords, readHex_address, readHex_byte]

/-- The line of a SRC word is read back. -/
theorem readText_textOf_src (set : Bool) (b : SourceIndex) :
    (textOf (.src (srcWord set b))).bind readText = some (.src (srcWord set b)) := by
  apply textOf_bind_readText (ws := [if set then ['S', 'E', 'T'] else ['C', 'L', 'R'], hexText 1 b.toNat])
  · cases set <;> simp [textOf, List.intercalate]
  · cases set <;> simp [isWord_names, isWord_hexText]
  · cases set <;> simp [readWords, readIndex_hexText]

/-- The line of a RESTORE is read back with its tuple. -/
theorem readText_textOf_restore (t : Snapshot) :
    (textOf (.host 0b10#2 t)).bind readText = some (.host 0b10#2 t) := by
  apply textOf_bind_readText (ws := [['R', 'E', 'S', 'T', 'O', 'R', 'E'], hexText 2 t.activeIrqs.toNat,
    hexText 2 t.enabledIrqs.toNat, flagText t.bramLocked, flagText t.readRightChannel])
  · simp [textOf, List.intercalate]
  · simp [isWord_names, isWord_hexText, isWord_flagText]
  · simp [readWords, readHex_byte, readFlag_flagText]

end Sys2Proof.Machine

namespace Sys2Proof.Proofs

open Sys2Proof.Machine

/-- Settles O12: a line for each kind of transaction; a SRC word is first written by its fields. -/
theorem textFormReadsBack : Obligations.TextFormReadsBack := by
  refine ⟨fun w a v hv => ?_, fun q => ?_, rfl, rfl, readText_textOf_restore⟩
  · cases w with
    | false =>
      rw [hv rfl]
      exact readText_textOf_read a
    | true => exact readText_textOf_write a v
  · rw [← srcWord_fields q]
    exact readText_textOf_src _ _

end Sys2Proof.Proofs
end

section
/-!
PROOFS. The signal bus and interrupt registers (spec/40_scsi_registers.md): a word is decoded by its offset alone
(`writeSelects_decodeWrite`, `readSelects_decodeRead`), a store of the enables is followed by one sink call
(`updateIrqLine_withEnabled`), and the writes of 0x02 and 0x04 are their collaborator calls and then such a store.
-/
namespace Sys2Proof.Machine

/-! ### The operation a word selects (R76) -/

/-- A write word selects what the decoder's write table holds at its offset. -/
theorem writeSelects_decodeWrite (off : Offset) : WriteSelects off (decodeWrite off) := by
  intro t hwrite hoff
  rw [decode, decodeBus, hwrite, hoff, if_pos rfl]

/-- A read word selects what the decoder's read table holds at its offset. -/
theorem readSelects_decodeRead (off : Offset) : ReadSelects off (decodeRead off) := by
  intro t hread hoff
  rw [decode, decodeBus, hread, hoff, if_neg Bool.false_ne_true]

/-! ### The writes that store the enables (R104, R108) -/

/-- Storing the enables and recomputing once reports the level of the stored enables and the pending bits (R150). -/
theorem updateIrqLine_withEnabled (e : Byte) (s : State) :
    (s.withEnabled e).updateIrqLine =
      { s with
        enabledIrqs := e
        irqSink := (e &&& s.activeIrqs) != 0x00#8
        trace := s.trace ++ [sinkCall s.params.irqLine ((e &&& s.activeIrqs) != 0x00#8)] } :=
  updateIrqLine_eq (s.withEnabled e)

/-- The write of 0x02 sets ACK and updates before it stores the enables. -/
theorem writeEnables_eq (env : Environment) (v : Byte) (s : State) :
    s.writeEnables env v =
      ((s.afterCalls env [.setSignal .ack (valueAck v), .update]).withEnabled (v &&& irqWritableMask)).updateIrqLine := by
  rw [State.writeEnables, callThenUpdate_eq]

/-- A write of 0x04 that asserts RST updates and then drops enables 4 to 6; the calls before have not written them. -/
theorem writeReset_asserted (env : Environment) {v : Byte} (hv : valueReset v = true) (s : State) :
    s.writeReset env v =
      ((s.afterCalls env [.setSignal .rst true, .update]).withEnabled (s.enabledIrqs &&& irqResetKeepMask)).updateIrqLine := by
  rw [State.writeReset, if_pos hv, callThenUpdate_eq, State.dropResetEnables, afterCalls_enabledIrqs]

/-- A write of 0x04 that releases RST updates and does nothing more. -/
theorem writeReset_released (env : Environment) {v : Byte} (hv : valueReset v = false) (s : State) :
    s.writeReset env v = s.afterCalls env [.setSignal .rst false, .update] := by
  rw [State.writeReset, if_neg (Bool.eq_false_iff.mp hv), callThenUpdate_eq]

/-! ### The byte of the enables (R105) -/

/-- With the enables in their mask bits 1 and 0 of the byte read at 0x02 are zero: ACK supplies bit 7 only. -/
theorem enablesByte_low_bits {e : Byte} (he : e &&& 0x83#8 = 0x00#8) (ack : Bool) : enablesByte e ack &&& 0x03#8 = 0x00#8 := by
  have hlow : e &&& 0x03#8 = 0x00#8 :=
    calc e &&& 0x03#8 = e &&& 0x83#8 &&& 0x03#8 := (BitVec.and_assoc e 0x83#8 0x03#8).symm
      _ = 0x00#8 := by rw [he, BitVec.zero_and]
  rw [enablesByte, BitVec.and_or_distrib_right, hlow]
  cases ack <;> rfl

end Sys2Proof.Machine

namespace Sys2Proof.Proofs

open Sys2Proof.Machine

/-- Settles O20: the value is not read, and the pulse is the four calls. -/
theorem selectPulse : Obligations.SelectPulse :=
  ⟨writeSelects_decodeWrite 0x000#10, fun _ s => congrArg Host.Outcome.next (pulseSelect_eq Config.respond s)⟩

/-- Settles O22: the phase is not looked at, and the write is the change and its update. -/
theorem writeDataPort : Obligations.WriteDataPort :=
  ⟨writeSelects_decodeWrite 0x001#10,
    fun v s => congrArg Host.Outcome.next (callThenUpdate_eq Config.respond (.setDataPort v) s)⟩

/-- Settles O24: the callbacks have run when the enables are stored, and the recomputation follows the store. -/
theorem writeEnablesAndAck : Obligations.WriteEnablesAndAck := by
  refine ⟨writeSelects_decodeWrite 0x002#10, fun v s => congrArg Host.Outcome.next ?_⟩
  rw [writeEnables_eq, updateIrqLine_withEnabled]
  rfl

/-- Settles O28: the written bit alone decides whether the enables are dropped and the line recomputed. -/
theorem writeBusReset : Obligations.WriteBusReset := by
  refine ⟨writeSelects_decodeWrite 0x004#10, fun v s => ⟨fun hv => ?_, fun hv => ?_⟩⟩
  · refine congrArg Host.Outcome.next ?_
    rw [writeReset_asserted _ hv, updateIrqLine_withEnabled]
    rfl
  · exact congrArg Host.Outcome.next (writeReset_released Config.respond hv s)

/-- Settles O21: the held status byte is the reply. -/
theorem readControllerStatus : Obligations.ReadControllerStatus :=
  ⟨readSelects_decodeRead 0x000#10, fun _ => rfl⟩

/-- Settles O23: the held data port is the reply, and the phase is not looked at. -/
theorem readDataPort : Obligations.ReadDataPort :=
  ⟨readSelects_decodeRead 0x001#10, fun _ => rfl⟩

/-- Settles O25: the reply is the enables with the present ACK in bit 7. -/
theorem readEnablesAndAck : Obligations.ReadEnablesAndAck :=
  ⟨readSelects_decodeRead 0x002#10, fun s => ⟨rfl, fun hs => enablesByte_low_bits hs s.collab.adapter.ack⟩⟩

/-- Settles O26: only the read of 0x03 has effects. -/
theorem writeStatusHasNoEffect : Obligations.WriteStatusHasNoEffect :=
  ⟨writeSelects_decodeWrite 0x003#10, fun _ _ => rfl⟩

/-- Settles O27: the reply is formed with the flip-flop as it is after the toggle. -/
theorem readStatusLocksAndToggles : Obligations.ReadStatusLocksAndToggles :=
  ⟨readSelects_decodeRead 0x003#10, fun _ => rfl⟩

/-- Settles O29: the reply is formed from the present RST line. -/
theorem readBusReset : Obligations.ReadBusReset :=
  ⟨readSelects_decodeRead 0x004#10, fun _ => rfl⟩

/-- Settles O59: the read of 0x07 replies from the lock, which the write has cleared and the status read sets again. -/
theorem unlockThenStatusReadRelocks : Obligations.UnlockThenStatusReadRelocks :=
  fun s => ⟨s.withLocked false, (s.withLocked false).reply (lockByte false),
    ((s.withLocked false).reply (lockByte false)).readStatus, _, rfl, rfl, rfl, rfl, rfl, rfl⟩

end Sys2Proof.Proofs
end

section
/-!
PROOFS. The sample registers and the BRAM lock (spec/41_audio_bram_registers.md): the model's byte extractors are the low and
the high byte of a sample's 16-bit pattern (`sampleLow_eq_setWidth`, `sampleHigh_eq_setWidth`), and a write of 0x07 clears the
lock or does nothing (`exec_wBramLock_set`, `exec_wBramLock_clear`).
-/
namespace Sys2Proof.Machine

/-! ### The bytes of a sample (R111, R113) -/

/-- The byte read at 0x05 is the sample's pattern truncated to 8 bits. -/
theorem sampleLow_eq_setWidth (x : Sample) : sampleLow x = x.setWidth 8 :=
  (BitVec.setWidth_eq_extractLsb' (by decide)).symm

/-- The byte read at 0x06 is the sample's pattern shifted right by 8 with zeros, then truncated: the sign is not extended. -/
theorem sampleHigh_eq_setWidth (x : Sample) : sampleHigh x = (x >>> 8).setWidth 8 :=
  BitVec.setWidth_ushiftRight_eq_extractLsb.symm

/-! ### The write of the lock (R114) -/

/-- A write of 0x07 with bit 7 set unlocks BRAM, whether or not it was locked. -/
theorem exec_wBramLock_set {v : Byte} (hv : valueUnlock v = true) (s : State) :
    exec (.wBramLock v) s = .next (s.withLocked false) :=
  congrArg Host.Outcome.next (if_pos hv)

/-- A write of 0x07 with bit 7 clear leaves the whole state: in particular it does not lock. -/
theorem exec_wBramLock_clear {v : Byte} (hv : valueUnlock v = false) (s : State) : exec (.wBramLock v) s = .next s :=
  congrArg Host.Outcome.next (if_neg (Bool.eq_false_iff.mp hv))

end Sys2Proof.Machine

namespace Sys2Proof.Proofs

open Sys2Proof.Machine

/-- Settles O30: both writes answer with the state they were given, and the value is not read. -/
theorem sampleWritesHaveNoEffect : Obligations.SampleWritesHaveNoEffect :=
  ⟨writeSelects_decodeWrite 0x005#10, writeSelects_decodeWrite 0x006#10, fun _ _ => ⟨rfl, rfl⟩⟩

/-- Settles O31: the replies are the two bytes of the sample that the flip-flop selects. -/
theorem sampleReadsReturnTheSelectedChannel : Obligations.SampleReadsReturnTheSelectedChannel := by
  refine ⟨readSelects_decodeRead 0x005#10, readSelects_decodeRead 0x006#10, fun s => ⟨?low, ?high⟩⟩
  case low => exact congrArg (fun b => Host.Outcome.next (s.reply b)) (sampleLow_eq_setWidth s.selectedSample)
  case high => exact congrArg (fun b => Host.Outcome.next (s.reply b)) (sampleHigh_eq_setWidth s.selectedSample)

/-- Settles O32: bit 7 of the value alone decides between the unlock and no effect. -/
theorem writeBramUnlock : Obligations.WriteBramUnlock :=
  ⟨writeSelects_decodeWrite 0x007#10,
    fun _ s => ⟨fun hset => exec_wBramLock_set hset s, fun hclear => exec_wBramLock_clear hclear s⟩⟩

/-- Settles O33: the reply is formed from the present lock. -/
theorem readBramLock : Obligations.ReadBramLock :=
  ⟨readSelects_decodeRead 0x007#10, fun _ => rfl⟩

end Sys2Proof.Proofs
end

section
/-!
PROOFS. The delegate registers and the unknown reads (spec/42_delegate_registers.md, spec/43_id_and_unmapped.md R145). A range
of read words selects an operation that is well formed on just that range, since decoding undoes encoding
(`readRangeSelects_of_encode`); a forwarded access is one call (`call_eq`, `readAdpcm_eq`); the streaming read makes its calls in
the data-input phase only (`readDataAuto_acknowledged`, `readDataAuto_untouched`).
-/
namespace Sys2Proof.Machine

/-! ### Reads of a range of offsets (R76) -/

/-- The decoder's read table holds, at an offset, the well-formed operation whose canonical word reads that offset. -/
theorem decodeRead_of_encode {i : Instr} {off : Offset} (hwf : i.wellFormed = true) (hword : encode i = encodeRead off) :
    decodeRead off = i := by
  have hdecode : decode (encodeRead off) = .ok i := hword ▸ decode_encode hwf
  exact Except.ok.inj ((decode_encodeRead off).symm.trans hdecode)

/-- A range of read words selects the operation of its offset that encodes as a read and is well formed on the range. -/
theorem readRangeSelects_of_encode {lo hi : Offset} {f : Offset → Instr} (hword : ∀ off, encode (f off) = encodeRead off)
    (hwf : ∀ off, (f off).wellFormed = Offset.within off lo hi) : ReadRangeSelects lo hi f := by
  intro t hread hlo hhi
  have hrow : decodeRead (offsetOf (busAddress t)) = f (offsetOf (busAddress t)) :=
    decodeRead_of_encode ((hwf _).trans (within_iff.mpr ⟨hlo, hhi⟩)) (hword _)
  rw [← hrow]
  exact readSelects_decodeRead _ t hread rfl

/-! ### Accesses forwarded to a delegate (R120 to R134) -/

/-- A read of the ADPCM window is one call, and its reply is the byte the delegate answers in the state before that call. -/
theorem readAdpcm_eq (env : Environment) (off : Offset) (s : State) :
    s.readAdpcm env off =
      { s.afterCalls env [.adpcmRead off] with result := .byte (env s.collab (.adpcmRead off)).data } := by
  rw [State.readAdpcm, call_eq]
  rfl

/-! ### The streaming read (R121) -/

/-- The data-input phase is REQ and IO asserted with CD not. -/
theorem dataInputPhase_iff (a : Adapter) : a.dataInputPhase = true ↔ a.req = true ∧ a.io = true ∧ a.cd = false := by
  simp [Adapter.dataInputPhase, and_assoc]

/-- In the data-input phase the streaming read acknowledges and updates, and replies with the data port from before. -/
theorem readDataAuto_acknowledged (env : Environment) {s : State} (h : s.collab.adapter.dataInputPhase = true) :
    s.readDataAuto env =
      { s.afterCalls env [.setAckWithAutoClear, .update] with result := .byte s.collab.adapter.dataPort } := by
  rw [State.readDataAuto, if_pos h, callThenUpdate_eq]
  rfl

/-- In any other phase the streaming read makes no call and is a reply with the data port. -/
theorem readDataAuto_untouched (env : Environment) {s : State} (h : ¬ s.collab.adapter.dataInputPhase = true) :
    s.readDataAuto env = s.reply s.collab.adapter.dataPort := by
  rw [State.readDataAuto, if_neg h]

/-! ### Unknown reads (R135, R145) -/

/-- An unknown read logs the offset, replies with open bus and changes nothing else. -/
theorem readUnknown_eq (off : Offset) (s : State) :
    s.readUnknown off = { s with result := .byte 0xFF#8, trace := s.trace ++ [.logUnknownRead off] } := rfl

end Sys2Proof.Machine

namespace Sys2Proof.Proofs

open Sys2Proof.Machine

/-- Settles O34: each row is one call, with the offset the row stands at. -/
theorem adpcmWritesAreForwarded : Obligations.AdpcmWritesAreForwarded := by
  refine ⟨writeSelects_decodeWrite 0x008#10, writeSelects_decodeWrite 0x009#10, writeSelects_decodeWrite 0x00A#10,
    writeSelects_decodeWrite 0x00B#10, writeSelects_decodeWrite 0x00C#10, writeSelects_decodeWrite 0x00D#10,
    writeSelects_decodeWrite 0x00E#10, fun v s => ?_⟩
  have forwarded (off : Offset) := congrArg (Host.Outcome.next : State → Answer) (call_eq Config.respond (.adpcmWrite off v) s)
  exact ⟨forwarded 0x008#10, forwarded 0x009#10, forwarded 0x00A#10, forwarded 0x00B#10, forwarded 0x00C#10,
    forwarded 0x00D#10, forwarded 0x00E#10⟩

/-- Settles O35: the phase before the calls decides between the acknowledge and no call. -/
theorem streamingReadAcknowledgesInDataPhase : Obligations.StreamingReadAcknowledgesInDataPhase := by
  refine ⟨readSelects_decodeRead 0x008#10, fun s => ⟨fun hphase => ?_, fun hphase => ?_⟩⟩
  · exact congrArg Host.Outcome.next (readDataAuto_acknowledged _ ((dataInputPhase_iff _).mpr hphase))
  · exact congrArg Host.Outcome.next (readDataAuto_untouched _ (mt (dataInputPhase_iff _).mp hphase))

/-- Settles O36: each row is one call, with the offset the row stands at, and the delegate's byte is the reply. -/
theorem adpcmReadsAreForwarded : Obligations.AdpcmReadsAreForwarded := by
  refine ⟨readSelects_decodeRead 0x009#10, readSelects_decodeRead 0x00A#10, readSelects_decodeRead 0x00B#10,
    readSelects_decodeRead 0x00C#10, readSelects_decodeRead 0x00D#10, readSelects_decodeRead 0x00E#10, fun s => ?_⟩
  have forwarded (off : Offset) := congrArg (Host.Outcome.next : State → Answer) (readAdpcm_eq Config.respond off s)
  exact ⟨forwarded 0x009#10, forwarded 0x00A#10, forwarded 0x00B#10, forwarded 0x00C#10, forwarded 0x00D#10,
    forwarded 0x00E#10⟩

/-- Settles O37: the one call is on the fader and carries the value alone. -/
theorem faderWriteIsForwarded : Obligations.FaderWriteIsForwarded :=
  ⟨writeSelects_decodeWrite 0x00F#10, fun v s => congrArg Host.Outcome.next (call_eq Config.respond (.faderWrite v) s)⟩

/-- Settles O38: each range is where its row is well formed, and every row is the unknown read of its offset. -/
theorem unknownReadsReturnOpenBus : Obligations.UnknownReadsReturnOpenBus := by
  refine ⟨readSelects_decodeRead 0x00F#10, ?_, ?_, ?_, ?_, ?_, ?_, ?_, ?_, ?_, ?_, fun off s => ?answers⟩
  case answers =>
    have unknown (o : Offset) := congrArg (Host.Outcome.next : State → Answer) (readUnknown_eq o s)
    exact ⟨unknown 0x00F#10, unknown off, unknown off, unknown off, unknown off, unknown off, unknown off, unknown off,
      unknown off, unknown off, unknown off⟩
  all_goals exact readRangeSelects_of_encode (fun _ => rfl) fun _ => rfl

end Sys2Proof.Proofs
end

section
/-!
PROOFS. The identification reads and the unknown writes (spec/43_id_and_unmapped.md). A range of write words selects an
operation that is well formed on just that range (`writeRangeSelects_of_encode`, beside `readRangeSelects_of_encode`); the
unit type alone decides between an identification byte and open bus (`readId_base`, `readId_enhanced`).
-/
namespace Sys2Proof.Machine

/-! ### Writes of a range of offsets (R76) -/

/-- The decoder's write table holds, at an offset and a value, the well-formed operation whose canonical word writes them. -/
theorem decodeWrite_of_encode {i : Instr} {off : Offset} {v : Byte} (hwf : i.wellFormed = true)
    (hword : encode i = encodeWrite off v) : decodeWrite off v = i := by
  have hdecode : decode (encodeWrite off v) = .ok i := hword ▸ decode_encode hwf
  exact Except.ok.inj ((decode_encodeWrite off v).symm.trans hdecode)

/-- A range of write words selects the operation of its offset and value that encodes as a write and is well formed on the
range. -/
theorem writeRangeSelects_of_encode {lo hi : Offset} {f : Offset → Byte → Instr}
    (hword : ∀ off v, encode (f off v) = encodeWrite off v)
    (hwf : ∀ off v, (f off v).wellFormed = Offset.within off lo hi) : WriteRangeSelects lo hi f := by
  intro t hwrite hlo hhi
  have hrow : decodeWrite (offsetOf (busAddress t)) (busValue t) = f (offsetOf (busAddress t)) (busValue t) :=
    decodeWrite_of_encode ((hwf _ _).trans (within_iff.mpr ⟨hlo, hhi⟩)) (hword _ _)
  rw [← hrow]
  exact writeSelects_decodeWrite _ t hwrite rfl

/-! ### Unknown writes (R144, R146) -/

/-- An unknown write logs the offset and the value and changes nothing else. -/
theorem writeUnknown_eq (off : Offset) (v : Byte) (s : State) :
    s.writeUnknown off v = { s with trace := s.trace ++ [.logUnknownWrite off v] } := rfl

/-! ### The identification bytes (R140 to R143) -/

/-- On a base unit every identification read replies with open bus and changes nothing else. -/
theorem readId_base {s : State} (h : s.params.unitType = .base) (i : BitVec 2) :
    s.readId i = { s with result := .byte 0xFF#8 } := by
  rw [State.readId, h]
  rfl

/-- On an enhanced unit an identification read replies with the byte of its index and changes nothing else. -/
theorem readId_enhanced {s : State} (h : s.params.unitType = .enhanced) (i : BitVec 2) :
    s.readId i = { s with result := .byte (idByte i) } := by
  rw [State.readId, h]
  rfl

end Sys2Proof.Machine

namespace Sys2Proof.Proofs

open Sys2Proof.Machine

/-- Settles O39: each range is where its row is well formed, and every row is the unknown write of its offset. -/
theorem unknownWritesAreOnlyLogged : Obligations.UnknownWritesAreOnlyLogged := by
  refine ⟨writeSelects_decodeWrite 0x0C0#10, writeSelects_decodeWrite 0x0C1#10, writeSelects_decodeWrite 0x0C2#10,
    writeSelects_decodeWrite 0x0C3#10, ?_, ?_, ?_, ?_, ?_, ?_, ?_, ?_, ?_, ?_, fun off v s => ?answers⟩
  case answers =>
    have unknown (o : Offset) := congrArg (Host.Outcome.next : State → Answer) (writeUnknown_eq o v s)
    exact ⟨unknown 0x0C0#10, unknown 0x0C1#10, unknown 0x0C2#10, unknown 0x0C3#10, unknown off, unknown off, unknown off,
      unknown off, unknown off, unknown off, unknown off, unknown off, unknown off, unknown off⟩
  all_goals exact writeRangeSelects_of_encode (fun _ _ => rfl) fun _ _ => rfl

/-- Settles O40: each row reads the byte of its index, which the unit type replaces by open bus or lets through. -/
theorem identificationReads : Obligations.IdentificationReads := by
  refine ⟨readSelects_decodeRead 0x0C0#10, readSelects_decodeRead 0x0C1#10, readSelects_decodeRead 0x0C2#10,
    readSelects_decodeRead 0x0C3#10, fun s => ⟨fun hbase => ?base, fun henhanced => ?enhanced⟩⟩
  case base =>
    have openBusRead (i : BitVec 2) := congrArg (Host.Outcome.next : State → Answer) (readId_base hbase i)
    exact ⟨openBusRead 0#2, openBusRead 1#2, openBusRead 2#2, openBusRead 3#2⟩
  case enhanced =>
    have idRead (i : BitVec 2) := congrArg (Host.Outcome.next : State → Answer) (readId_enhanced henhanced i)
    exact ⟨idRead 0#2, idRead 1#2, idRead 2#2, idRead 3#2⟩

end Sys2Proof.Proofs
end

section
/-!
PROOFS. The interrupt aggregator (spec/44_irq_ops.md). IRQSET and IRQCLR are the callbacks an index in SOURCES lets through
(`exec_operation`): one changes a pending bit and recomputes, or leaves the whole state (`runCallback_of_mask_ne`,
`runCallback_of_mask_eq`). Whatever changes a mask recomputes at once, so at each point of an operation either no mask has
changed and no sink call stands in the trace, or the last sink call reports the present level (`ReportedSince`).
-/
namespace Sys2Proof.Machine

/-! ### The recomputation (R150) -/

/-- One sink call reports its level, whatever was reported before. -/
@[simp] theorem lastLevel_sinkCall (before : Bool) (line : Nat) (level : Bool) :
    lastLevel before [sinkCall line level] = level := by
  cases level <;> rfl

/-- A level that is asserted is reported by an assert. -/
theorem updateIrqLine_asserted {s : State} (h : s.irqLevel = true) :
    s.updateIrqLine = { s with irqSink := true, trace := s.trace ++ [.irqAssert s.params.irqLine] } := by
  rw [updateIrqLine_eq, h]
  rfl

/-- A level that is not asserted is reported by a deassert. -/
theorem updateIrqLine_deasserted {s : State} (h : s.irqLevel = false) :
    s.updateIrqLine = { s with irqSink := false, trace := s.trace ++ [.irqDeassert s.params.irqLine] } := by
  rw [updateIrqLine_eq, h]
  rfl

/-! ### A callback changes a bit and recomputes, or does nothing (R151, R152) -/

/-- A callback that leaves the pending bits leaves the whole state: no recomputation, no call. -/
theorem runCallback_of_mask_eq {s : State} {c : Callback} (h : maskAfterOne s.activeIrqs c = s.activeIrqs) :
    s.runCallback c = s := by
  rw [runCallback_eq]
  simp [maskAfter, sinkCalls, lastLevel, h]

/-- A callback that changes the pending bits stores them and recomputes the line once. -/
theorem runCallback_of_mask_ne {s : State} {c : Callback} (h : maskAfterOne s.activeIrqs c ≠ s.activeIrqs) :
    s.runCallback c = (s.withActive (maskAfterOne s.activeIrqs c)).updateIrqLine := by
  have hcalls : sinkCalls s.params.irqLine s.enabledIrqs s.activeIrqs [c] =
      [sinkCall s.params.irqLine (levelOf s.enabledIrqs (maskAfterOne s.activeIrqs c))] := if_neg h
  rw [runCallback_eq, updateIrqLine_eq, hcalls, lastLevel_sinkCall]
  rfl

/-- A bit set is set, and a bit cleared is clear: the same callback again changes nothing. -/
theorem maskAfterOne_idem (a : Byte) (c : Callback) : maskAfterOne (maskAfterOne a c) c = maskAfterOne a c := by
  cases c with
  | set b => rw [maskAfterOne, maskAfterOne, BitVec.or_assoc, BitVec.or_self]
  | clear b => rw [maskAfterOne, maskAfterOne, BitVec.and_assoc, BitVec.and_self]

/-- The second of two equal callbacks leaves the whole state, its trace included. -/
theorem runCallback_idem (s : State) (c : Callback) : (s.runCallback c).runCallback c = s.runCallback c := by
  apply runCallback_of_mask_eq
  rw [State.runCallback_activeIrqs]
  exact maskAfterOne_idem s.activeIrqs c

/-! ### The operations of the interrupt-source port (R32, R151, R152) -/

/-- The operation that asks for what a callback asks for. -/
def Callback.operation : Callback → Instr
  | .set b => .irqset b
  | .clear b => .irqclr b

/-- An operation of the interrupt-source port is its callback, refused when the index is outside `SOURCES`. -/
theorem exec_operation (c : Callback) (s : State) :
    exec c.operation s =
      if s.params.admits c.index then .next (s.runCallback c) else .refused (.sourceOutsideSources c.index) := by
  cases c <;> rfl

/-- An index outside `SOURCES` is refused. -/
theorem exec_operation_outside {c : Callback} {s : State} (h : s.params.admits c.index = false) :
    exec c.operation s = .refused (.sourceOutsideSources c.index) := by
  rw [exec_operation, if_neg (Bool.eq_false_iff.mp h)]

/-- An operation that changes its pending bit stores it and reports the new level with one sink call. -/
theorem exec_operation_of_mask_ne {c : Callback} {s : State} (hc : s.params.admits c.index = true)
    (h : maskAfterOne s.activeIrqs c ≠ s.activeIrqs) :
    exec c.operation s =
      .next
        { s with
          activeIrqs := maskAfterOne s.activeIrqs c
          irqSink := levelOf s.enabledIrqs (maskAfterOne s.activeIrqs c)
          trace := s.trace ++ [sinkCall s.params.irqLine (levelOf s.enabledIrqs (maskAfterOne s.activeIrqs c))] } := by
  rw [exec_operation, if_pos hc, runCallback_of_mask_ne h, updateIrqLine_eq]
  rfl

/-- An operation that finds its pending bit as it would leave it does nothing. -/
theorem exec_operation_of_mask_eq {c : Callback} {s : State} (hc : s.params.admits c.index = true)
    (h : maskAfterOne s.activeIrqs c = s.activeIrqs) : exec c.operation s = .next s := by
  rw [exec_operation, if_pos hc, runCallback_of_mask_eq h]

/-- From where an operation of this port has led, the same operation leads nowhere else. -/
theorem exec_operation_idem {c : Callback} {s t : State} (h : exec c.operation s = .next t) :
    exec c.operation t = .next t := by
  rw [exec_operation] at h
  split at h
  case isTrue hc =>
    cases h
    rw [exec_operation, State.runCallback_params, if_pos hc, runCallback_idem]
  case isFalse => cases h

/-! ### The last sink call reports the level (R150, R179) -/

/-- Since `s` no mask has changed, and the trace of `x` holds no sink call. -/
abbrev SilentSince (s x : State) : Prop :=
  x.activeIrqs = s.activeIrqs ∧ x.enabledIrqs = s.enabledIrqs ∧ ∀ c ∈ x.trace, c.isSink = false

/-- The trace holds a sink call, the last one reports the level of the state, and the controller has it on record. -/
abbrev State.LastReported (x : State) : Prop :=
  (∃ c ∈ x.trace, c.isSink = true) ∧ x.LineAgrees ∧ ∀ before, lastLevel before x.trace = x.irqLevel

/-- What holds at each point of an operation begun in `s`. -/
abbrev ReportedSince (s x : State) : Prop := SilentSince s x ∨ x.LastReported

/-- An operation begins with an empty trace. -/
theorem begin_silentSince (rest : List Input) (s : State) : SilentSince s (s.begin rest) :=
  ⟨rfl, rfl, List.forall_mem_nil _⟩

/-- A recomputation reports the level, whatever was reported before. -/
theorem updateIrqLine_lastReported (s : State) : s.updateIrqLine.LastReported := by
  refine ⟨?_, updateIrqLine_lineAgrees s, fun before => ?_⟩
  · rw [updateIrqLine_eq]
    exact ⟨_, List.mem_concat_self, isSink_sinkCall _ _⟩
  · rw [updateIrqLine_eq, lastLevel_append, lastLevel_sinkCall]
    rfl

/-- A call that is no sink call reports nothing. -/
theorem lastLevel_of_not_isSink {c : Call} (hc : c.isSink = false) (before : Bool) : lastLevel before [c] = before := by
  cases c with
  | irqAssert | irqDeassert => cases hc
  | collab | logUnknownRead | logUnknownWrite => rfl

/-- A call that is no sink call leaves the last report the last one. -/
theorem emit_reportedSince {s x : State} {c : Call} (hc : c.isSink = false) (hx : ReportedSince s x) :
    ReportedSince s (x.emit c) := by
  obtain ⟨hactive, henabled, hquiet⟩ | ⟨⟨d, hd, hsink⟩, hrecord, hlast⟩ := hx
  · exact .inl ⟨hactive, henabled, List.forall_mem_append.mpr ⟨hquiet, List.forall_mem_singleton.mpr hc⟩⟩
  · refine .inr ⟨⟨d, List.mem_append_left _ hd, hsink⟩, hrecord, fun before => ?_⟩
    rw [State.emit_trace, lastLevel_append, lastLevel_of_not_isSink hc]
    exact hlast before

/-- A callback recomputes the line, or leaves everything. -/
theorem runCallback_reportedSince {s x : State} (hx : ReportedSince s x) (c : Callback) :
    ReportedSince s (x.runCallback c) := by
  by_cases h : maskAfterOne x.activeIrqs c = x.activeIrqs
  · rwa [runCallback_of_mask_eq h]
  · rw [runCallback_of_mask_ne h]
    exact .inr (updateIrqLine_lastReported _)

/-- A collaborator call is no sink call; its callbacks follow it. -/
theorem call_reportedSince (env : Environment) (c : CollabCall) {s x : State} (hx : ReportedSince s x) :
    ReportedSince s (x.call env c) := by
  have hcalled : ReportedSince s (x.emit (.collab c)) := emit_reportedSince rfl hx
  exact List.foldlRecOn _ State.runCallback hcalled fun _ hy d _ => runCallback_reportedSince hy d

/-- A sequence of collaborator calls, callbacks included. -/
theorem afterCalls_reportedSince (env : Environment) (cs : List CollabCall) {s x : State} (hx : ReportedSince s x) :
    ReportedSince s (x.afterCalls env cs) := by
  induction cs generalizing x with
  | nil => rwa [afterCalls_nil]
  | cons c cs ih =>
    rw [← List.singleton_append, ← afterCalls_append, ← call_eq]
    exact ih (call_reportedSince env c hx)

/-- A closing change leaves both masks alone, recomputes the line, or is that of RESET or RESTORE. -/
theorem ClosesWith.reportedSince {i : Instr} {s x t : State} (h : ClosesWith i x t)
    (hi : rewritesMasksSilently i = false) (hx : ReportedSince s x) : ReportedSince s t := by
  cases h with
  | enablesStored | enablesDropped => exact .inr (updateIrqLine_lastReported _)
  | sourceSet | sourceCleared => exact runCallback_reportedSince hx _
  | loggedRead | loggedWrite => exact emit_reportedSince rfl hx
  | poweredOn | installed => cases hi
  | unchanged | replied | unlocked | statusRead | captured => exact hx

/-- An environment step but a warm reset changes no mask and makes no call. -/
theorem applyEvent_silentSince {s x : State} {e : EnvEvent} (he : (Input.event e).rewritesSilently = false)
    (hx : SilentSince s x) : SilentSince s (x.applyEvent e) := by
  cases e with
  | collaborators | hostSync => exact hx
  | warmReset => cases he

/-- A step that is no RESET, RESTORE or warm reset reports what it changes. -/
theorem step_next_reportedSince {s t : State} (hin : ∀ x rest, s.inbox = x :: rest → x.rewritesSilently = false)
    (h : step s = .next t) : ReportedSince s t := by
  obtain ⟨-, rfl⟩ | ⟨e, rest, hbox, rfl⟩ | ⟨x, i, rest, hbox, hdec, hexec⟩ := step_next_cases h
  · exact .inl (begin_silentSince [] s)
  · exact .inl (applyEvent_silentSince (hin _ _ hbox) (begin_silentSince rest s))
  · have hi : rewritesMasksSilently i = false := (rewritesSilently_of_decode hdec).symm.trans (hin _ _ hbox)
    have hcalls := afterCalls_reportedSince Config.respond (callsOf i (s.begin rest)) (.inl (begin_silentSince rest s))
    exact (exec_next_closes hexec).reportedSince hi hcalls

end Sys2Proof.Machine

namespace Sys2Proof.Proofs

open Sys2Proof.Machine

/-- Settles O17: without a sink call no mask has changed, and the last sink call, where there is one, reports the level. -/
theorem changedMasksAreReported : Obligations.ChangedMasksAreReported := by
  intro s t hin h
  obtain ⟨hactive, henabled, hquiet⟩ | ⟨hsink, hrecord, hlast⟩ := step_next_reportedSince hin h
  · constructor
    · rintro (hne | hne)
      · exact absurd hactive hne
      · exact absurd henabled hne
    · rintro ⟨c, hc, hcsink⟩
      exact absurd hcsink (Bool.eq_false_iff.mp (hquiet c hc))
  · exact ⟨fun _ => hsink, fun _ => ⟨hrecord, hlast⟩⟩

/-- Settles O42: the mask of source `b` meets the pending bits exactly when setting bit `b` changes nothing. -/
theorem setSource : Obligations.SetSource := by
  intro b s
  have hmask : maskAfterOne s.activeIrqs (.set b) = s.activeIrqs ↔ s.activeIrqs &&& sourceMask b ≠ 0x00#8 :=
    or_sourceMask_eq_self s.activeIrqs b
  refine ⟨congrArg Except.ok (decodeSrc_srcWord true b), fun hb => ⟨fun hclear => ?_, fun hset => ?_⟩, fun hout => ?_⟩
  · exact exec_operation_of_mask_ne (c := .set b) hb fun heq => hmask.mp heq hclear
  · exact exec_operation_of_mask_eq (c := .set b) hb (hmask.mpr hset)
  · exact exec_operation_outside (c := .set b) hout

/-- Settles O43: the mask of source `b` meets the pending bits exactly when clearing bit `b` changes them. -/
theorem clearSource : Obligations.ClearSource := by
  intro b s
  have hmask : maskAfterOne s.activeIrqs (.clear b) = s.activeIrqs ↔ s.activeIrqs &&& sourceMask b = 0x00#8 :=
    and_not_sourceMask_eq_self s.activeIrqs b
  refine ⟨congrArg Except.ok (decodeSrc_srcWord false b), fun hb => ⟨fun hset => ?_, fun hclear => ?_⟩, fun hout => ?_⟩
  · exact exec_operation_of_mask_ne (c := .clear b) hb fun heq => hset (hmask.mp heq)
  · exact exec_operation_of_mask_eq (c := .clear b) hb (hmask.mpr hclear)
  · exact exec_operation_outside (c := .clear b) hout

/-- Settles O53: both are the callback of their index, which is idempotent. -/
theorem sourceOperationsAreIdempotent : Obligations.SourceOperationsAreIdempotent :=
  fun b _ _ => ⟨exec_operation_idem (c := .set b), exec_operation_idem (c := .clear b)⟩

/-- Settles O41: the level is whether the masks overlap. -/
theorem recomputationReportsTheLevel : Obligations.RecomputationReportsTheLevel :=
  fun _ => ⟨fun hoverlap => updateIrqLine_asserted (bne_iff_ne.mpr hoverlap),
    fun hdisjoint => updateIrqLine_deasserted (bne_eq_false_iff_eq.mpr hdisjoint)⟩

end Sys2Proof.Proofs
end

section
/-!
PROOFS. The host operations (spec/45_system_ops.md). RESET installs the power-on tuple (`exec_reset`), SNAPSHOT captures
(`exec_snapshot`), and RESTORE installs its tuple or is refused (`exec_restore_admissible`, `exec_restore_inadmissible`);
`install_eq` and `capture_eq` say which four fields an installation writes and a capture reads.
-/
namespace Sys2Proof.Machine

/-- An installation writes four fields: it keeps the collaborators, the sink record, the parameters and the trace. -/
theorem install_eq (u : Snapshot) (s : State) :
    s.install u =
      { s with
        activeIrqs := u.activeIrqs
        enabledIrqs := u.enabledIrqs
        bramLocked := u.bramLocked
        readRightChannel := u.readRightChannel } := rfl

/-- A capture reads each field of the tuple from the field of that name. -/
theorem capture_eq (s : State) : s.capture = ⟨s.activeIrqs, s.enabledIrqs, s.bramLocked, s.readRightChannel⟩ := rfl

/-- RESET completes from every state, with the power-on tuple installed (R160). -/
theorem exec_reset (s : State) : exec .reset s = .next (s.install powerOnTuple) := rfl

/-- SNAPSHOT completes from every state, and only the result it returns is new (R161). -/
theorem exec_snapshot (s : State) : exec .snapshot s = .next (s.withResult (.tuple s.capture)) := rfl

/-- The check of RESTORE is the condition the spec writes, on the enables of the tuple alone (R162). -/
theorem admissibleTuple_iff (u : Snapshot) : admissibleTuple u = true ↔ u.enabledIrqs &&& 0x83#8 = 0x00#8 := beq_iff_eq

/-- RESTORE of a tuple that breaks the invariant of the enables is refused, from every state (D19). -/
theorem exec_restore_inadmissible {u : Snapshot} (hu : ¬ admissibleTuple u = true) (s : State) :
    exec (.restore u) s = .refused (.restoreBreaksInvariant u) :=
  if_neg hu

end Sys2Proof.Machine

namespace Sys2Proof.Proofs

open Sys2Proof.Machine

/-- Settles O44: RESET is the installation of the power-on tuple, which writes the four fields and makes no call. -/
theorem resetOperation : Obligations.ResetOperation := by
  refine ⟨fun p => ?word, fun s => ?effect⟩
  case word =>
    obtain ⟨hreset, -⟩ := hostWordsDecodeOrAreRefused p
    exact hreset
  case effect => rw [exec_reset, install_eq, powerOnTuple]

/-- Settles O45: the result is the captured tuple, and a result is no field that the tuple reads. -/
theorem snapshotOperation : Obligations.SnapshotOperation := by
  refine ⟨fun p => ?word, fun s => ?effect⟩
  case word =>
    obtain ⟨-, hsnapshot, -⟩ := hostWordsDecodeOrAreRefused p
    exact hsnapshot
  case effect => rw [exec_snapshot, capture_eq, State.withResult]

/-- Settles O46: the check on the tuple's enables decides between the installation and the refusal. -/
theorem restoreOperation : Obligations.RestoreOperation := by
  intro u
  obtain ⟨-, -, hrestore, -⟩ := hostWordsDecodeOrAreRefused u
  refine ⟨hrestore, fun s => ⟨fun hmask => ?admissible, fun hmask => ?inadmissible⟩⟩
  case admissible => rw [exec_restore_admissible ((admissibleTuple_iff u).mpr hmask), install_eq]
  case inadmissible => exact exec_restore_inadmissible (fun hu => hmask ((admissibleTuple_iff u).mp hu)) s

end Sys2Proof.Proofs
end

section
/-!
PROOFS. No exceptions, and the first reads after RESET (spec/60_exceptions.md, spec/70_reset_and_hazards.md). An operation stops
exactly where the rules refuse it (`exec_completes`, `exec_refused`), which is what `presentsNoOperation` says of a decoded
transaction. Callbacks with different indexes change different bits, so they commute on the pending bits
(`maskAfterOne_comm`), and what two of them leave on record depends on the pending bits they leave alone
(`runCallback_runCallback_irqSink`). With the zero masks of RESET the line is low and the
bytes read at 0x02 and 0x03 show ACK and the flip-flop alone.
-/
namespace Sys2Proof.Machine

/-! ### Where an operation stops (R170) -/

/-- The operations the environment of the hardware never asks for: one of a source outside `SOURCES` (R32), a RESTORE that breaks
the invariant of the enables (R162). -/
def isRefused (i : Instr) (s : State) : Bool :=
  match i with
  | .irqset b => !s.params.admits b
  | .irqclr b => !s.params.admits b
  | .restore u => !admissibleTuple u
  | _ => false

/-- Every other operation completes, from every state. -/
theorem exec_completes {i : Instr} {s : State} (h : isRefused i s = false) : ∃ t, exec i s = .next t := by
  cases i with
  | irqset b | irqclr b => exact ⟨_, if_pos (by simpa [isRefused] using h)⟩
  | restore u => exact ⟨_, exec_restore_admissible (by simpa [isRefused] using h) s⟩
  | _ => exact ⟨_, rfl⟩

/-- Those operations are refused. -/
theorem exec_refused {i : Instr} {s : State} (h : isRefused i s = true) : ∃ r, exec i s = .refused r := by
  cases i with
  | irqset b | irqclr b => exact ⟨_, if_neg (by simpa [isRefused] using h)⟩
  | restore u => exact ⟨_, exec_restore_inadmissible (by simpa [isRefused] using h) s⟩
  | _ => cases h

/-- No operation of the bus is refused: those that can be are words of the other two ports. -/
theorem isRefused_decodeBus (w : BitVec 25) (s : State) : isRefused (decodeBus w) s = false := by
  have hword := encode_decodeBus w
  cases hi : decodeBus w with
  | irqset | irqclr | restore =>
    rw [hi] at hword
    cases hword
  | _ => rfl

/-- A SRC word asks for an operation that is refused exactly when its index is outside `SOURCES`. -/
theorem isRefused_decodeSrc (q : BitVec 4) (s : State) : isRefused (decodeSrc q) s = !s.params.admits (srcIndex q) := by
  rw [decodeSrc]
  split <;> rfl

/-! ### Where a step stops (R170) -/

/-- A transaction that decodes is no behaviour of the hardware exactly when its operation is refused. -/
theorem presentsNoOperation_of_decode_ok {s : State} {x : Transaction} {i : Instr} {rest : List Input}
    (hs : s.inbox = .op x :: rest) (hx : decode x = .ok i) : s.presentsNoOperation = isRefused i (s.begin rest) := by
  rw [State.presentsNoOperation, hs]
  cases x with
  | bus w =>
    cases hx
    exact (isRefused_decodeBus w _).symm
  | src q =>
    cases hx
    exact (isRefused_decodeSrc q _).symm
  | host w u =>
    rw [decode, decodeHost] at hx
    split_ifs at hx with hreset hsnapshot hrestore
    · cases hx
      rw [hreset]
      rfl
    · cases hx
      rw [hsnapshot]
      rfl
    · cases hx
      rw [hrestore]
      rfl
  | memRead | memWrite =>
    rw [decode] at hx
    split at hx
    case isTrue hn =>
      cases hx
      rw [isRefused_decodeBus, hn]
      rfl
    case isFalse => cases hx

/-- A transaction that does not decode is no behaviour of the hardware: the HOST word 11, or a wide access. -/
theorem presentsNoOperation_of_decode_error {s : State} {x : Transaction} {e : DecodeError} {rest : List Input}
    (hs : s.inbox = .op x :: rest) (hx : decode x = .error e) : s.presentsNoOperation = true := by
  rw [State.presentsNoOperation, hs]
  cases x with
  | bus | src => cases hx
  | host w u =>
    rw [decode, decodeHost] at hx
    split_ifs at hx with hreset hsnapshot hrestore
    have hundefined : w = 0b11#2 := by bv_omega
    rw [hundefined]
    rfl
  | memRead | memWrite =>
    rw [decode] at hx
    split at hx
    case isTrue => cases hx
    case isFalse hn => exact bne_iff_ne.mpr hn

/-- A step on anything but the four refusals has a next state. -/
theorem step_completes {s : State} (h : s.presentsNoOperation = false) : ∃ t, step s = .next t := by
  match hs : s.inbox with
  | [] => exact ⟨_, step_idle hs⟩
  | .event e :: rest => exact ⟨_, step_event hs⟩
  | .op x :: rest =>
    match hx : decode x with
    | .ok i =>
      rw [step_op hs hx]
      exact exec_completes ((presentsNoOperation_of_decode_ok hs hx).symm.trans h)
    | .error e => exact absurd (presentsNoOperation_of_decode_error hs hx) (Bool.eq_false_iff.mp h)

/-- A step on one of the four is refused. -/
theorem step_refused {s : State} (h : s.presentsNoOperation = true) : ∃ r, step s = .refused r := by
  match hs : s.inbox with
  | [] | .event e :: rest =>
    rw [State.presentsNoOperation, hs] at h
    cases h
  | .op x :: rest =>
    match hx : decode x with
    | .ok i =>
      rw [step_op hs hx]
      exact exec_refused ((presentsNoOperation_of_decode_ok hs hx).symm.trans h)
    | .error e => exact ⟨_, step_no_op hs hx⟩

/-! ### Source operations on different indexes (R178) -/

/-- Clearing one source keeps the bit of another. -/
theorem sourceMask_and_not_sourceMask {b c : SourceIndex} (h : b ≠ c) : sourceMask b &&& ~~~ sourceMask c = sourceMask b := by
  revert b c
  decide

/-- Setting one source and clearing another commute. -/
theorem or_and_not_sourceMask_comm {b c : SourceIndex} (h : b ≠ c) (a : Byte) :
    (a ||| sourceMask b) &&& ~~~ sourceMask c = (a &&& ~~~ sourceMask c) ||| sourceMask b := by
  rw [BitVec.and_or_distrib_right, sourceMask_and_not_sourceMask h]

/-- Callbacks with different indexes leave the same pending bits in both orders. -/
theorem maskAfterOne_comm {c d : Callback} (h : c.index ≠ d.index) (a : Byte) :
    maskAfterOne (maskAfterOne a c) d = maskAfterOne (maskAfterOne a d) c := by
  cases c with
  | set b =>
    cases d with
    | set b' => exact RightCommutative.right_comm (op := (· ||| ·)) a (sourceMask b) (sourceMask b')
    | clear b' => exact or_and_not_sourceMask_comm h a
  | clear b =>
    cases d with
    | set b' => exact (or_and_not_sourceMask_comm h.symm a).symm
    | clear b' => exact RightCommutative.right_comm (op := (· &&& ·)) a (~~~ sourceMask b) (~~~ sourceMask b')

/-- The second of two callbacks with different indexes does not undo the first. -/
theorem maskAfterOne_eq_of_pair_eq {c d : Callback} (h : c.index ≠ d.index) {a : Byte}
    (hpair : maskAfterOne (maskAfterOne a c) d = a) : maskAfterOne a c = a :=
  calc maskAfterOne a c
      = maskAfterOne (maskAfterOne (maskAfterOne a c) d) c := by rw [hpair]
    _ = maskAfterOne (maskAfterOne (maskAfterOne a c) c) d := maskAfterOne_comm h.symm _
    _ = maskAfterOne (maskAfterOne a c) d := by rw [maskAfterOne_idem]
    _ = a := hpair

/-- What a callback leaves on record: the level of the new pending bits if they changed, and else what was on record. -/
theorem runCallback_irqSink (s : State) (c : Callback) :
    (s.runCallback c).irqSink =
      if maskAfterOne s.activeIrqs c = s.activeIrqs then s.irqSink
      else levelOf s.enabledIrqs (maskAfterOne s.activeIrqs c) := by
  split
  case isTrue h => rw [runCallback_of_mask_eq h]
  case isFalse h =>
    rw [runCallback_of_mask_ne h, updateIrqLine_eq]
    rfl

/-- What two callbacks with different indexes leave on record: the level of the pending bits after both if they changed, and
else what was on record. -/
theorem runCallback_runCallback_irqSink {c d : Callback} (h : c.index ≠ d.index) (s : State) :
    ((s.runCallback c).runCallback d).irqSink =
      if maskAfterOne (maskAfterOne s.activeIrqs c) d = s.activeIrqs then s.irqSink
      else levelOf s.enabledIrqs (maskAfterOne (maskAfterOne s.activeIrqs c) d) := by
  by_cases hc : maskAfterOne s.activeIrqs c = s.activeIrqs
  · rw [runCallback_of_mask_eq hc, hc, runCallback_irqSink]
  · have hpair : maskAfterOne (maskAfterOne s.activeIrqs c) d ≠ s.activeIrqs := fun he =>
      hc (maskAfterOne_eq_of_pair_eq h he)
    rw [runCallback_irqSink, runCallback_irqSink, if_neg hpair, if_neg hc, State.runCallback_activeIrqs,
      State.runCallback_enabledIrqs, maskAfter, maskAfter]
    split
    case isTrue hd => rw [hd]
    case isFalse => rfl

/-- Two callbacks write the pending bits, the record and the trace. -/
theorem runCallback_runCallback_but_trace (s : State) (c d : Callback) :
    ((s.runCallback c).runCallback d).withTrace [] =
      { s with
        activeIrqs := maskAfterOne (maskAfterOne s.activeIrqs c) d
        irqSink := ((s.runCallback c).runCallback d).irqSink
        trace := [] } := by
  have hpair : (s.runCallback c).runCallback d = _ := foldl_runCallback_eq [c, d] s
  rw [hpair]
  rfl

/-- Two callbacks with different indexes leave the same state in both orders, but for the trace. -/
theorem runCallback_comm_but_trace {c d : Callback} (h : c.index ≠ d.index) (s : State) :
    ((s.runCallback c).runCallback d).withTrace [] = ((s.runCallback d).runCallback c).withTrace [] := by
  have hsink : ((s.runCallback c).runCallback d).irqSink = ((s.runCallback d).runCallback c).irqSink := by
    rw [runCallback_runCallback_irqSink h, runCallback_runCallback_irqSink h.symm, maskAfterOne_comm h]
  rw [runCallback_runCallback_but_trace s c d, runCallback_runCallback_but_trace s d c, hsink, maskAfterOne_comm h]

/-- A source operation that completes has run its callback. -/
theorem exec_operation_next {c : Callback} {s t : State} (h : exec c.operation s = .next t) : t = s.runCallback c := by
  rw [exec_operation] at h
  split at h <;> cases h
  rfl

/-- The source operations on an index are the operations of the two callbacks that name it. -/
theorem exists_operation_of_source {i : Instr} {b : SourceIndex} (h : i = .irqset b ∨ i = .irqclr b) :
    ∃ c : Callback, c.index = b ∧ c.operation = i := by
  obtain rfl | rfl := h
  · exact ⟨.set b, rfl, rfl⟩
  · exact ⟨.clear b, rfl, rfl⟩

/-! ### The state RESET leaves (R191) -/

/-- With no enable set, the line is low. -/
theorem levelOf_zero (active : Byte) : levelOf 0x00#8 active = false := bne_eq_false_iff_eq.mpr BitVec.zero_and

/-- With no source pending, the byte read at 0x03 is the flip-flop alone, inverted in bit 1. -/
theorem statusByte_zero (right : Bool) : statusByte 0x00#8 right = if right then 0x00#8 else 0x02#8 :=
  BitVec.zero_or

/-- With no enable set, the byte read at 0x02 is ACK alone. -/
theorem enablesByte_zero (ack : Bool) : enablesByte 0x00#8 ack = if ack then 0x80#8 else 0x00#8 :=
  BitVec.zero_or

end Sys2Proof.Machine

namespace Sys2Proof.Proofs

open Sys2Proof.Machine

/-- Settles O6: a transaction is refused by the decoder or by its operation exactly in the four cases, a BUS word is none of
them, and `Fault` has no constructor. -/
theorem stepStopsOnlyOnNoOperation : Obligations.StepStopsOnlyOnNoOperation := by
  refine fun s => ⟨step_completes, step_refused, fun w rest hs => step_completes ?_, fun f => nomatch f⟩
  exact (presentsNoOperation_of_decode_ok hs rfl).trans (isRefused_decodeBus w _)

/-- Settles O54: the operations are the callbacks of their indexes, which commute but for the trace. -/
theorem sourceOperationsCommute : Obligations.SourceOperationsCommute := by
  intro i j b c s t u t' u' hbc hi hj hit hju hjt' hiu'
  obtain ⟨x, rfl, rfl⟩ := exists_operation_of_source hi
  obtain ⟨y, rfl, rfl⟩ := exists_operation_of_source hj
  rw [exec_operation_next hju, exec_operation_next hit, exec_operation_next hiu', exec_operation_next hjt']
  exact runCallback_comm_but_trace hbc s

/-- Settles O58: the masks are zero, BRAM is locked, the left channel is selected, and the first status read selects the
right one. -/
theorem firstReadsAfterReset : Obligations.FirstReadsAfterReset := by
  intro s t h
  rw [exec_reset] at h
  cases h
  obtain ⟨-, -, hsamples⟩ := sampleReadsReturnTheSelectedChannel
  obtain ⟨hlow, hhigh⟩ := hsamples (s.install powerOnTuple)
  refine ⟨?level, ?enables, rfl, hlow, hhigh, _, rfl, ?first, _, rfl, ?second⟩
  case level => exact levelOf_zero _
  case enables => exact congrArg (fun b => Host.Outcome.next ((s.install powerOnTuple).reply b)) (enablesByte_zero _)
  case first => exact congrArg Result.byte (statusByte_zero true)
  case second => exact congrArg Result.byte (statusByte_zero false)

end Sys2Proof.Proofs
end
